-- ==== Sys2Proof/Config.lean ====
section
/-! DEFINITION. What an implementation fixes (Table P1 of spec/00_scope.md, rule R6), and the values the spec leaves
free in each cycle. The parameters are named constants that nothing changes at run time (R8). Their values are the
document's and are unaudited (R9, D27: log entry 9); no definition of the machine repeats one, so that a corrected value is a
change of this file alone. The widths are abbreviations, since the types of Word.lean are made of them. F_CLK is left open by the spec and enters no rule: the model works
in cycles alone, as R7 allows (log entry 10). -/

namespace Sys2Proof.Config

/-- PACKET_BITS (R6): significant bits per packet. -/
abbrev packetBits : Nat := 28

/-- SAMPLE_BITS (R6, R7): rising edges sampled per attempt, one more than a packet's bits. -/
abbrev sampleBits : Nat := packetBits + 1

/-- SYNC_GAP_US (R6): shortest clock-high period, in ticks, that marks a packet boundary. -/
def syncGapUs : Nat := 800

/-- WINDOW_US (R6): a sampling duration of this many ticks or more is an overrun. -/
def windowUs : Nat := 900

/-- RECOVERY_MS (R6). -/
def recoveryMs : Nat := 10

/-- RECOVERY_US (R6): the recovery pause in ticks. -/
def recoveryUs : Nat := recoveryMs * 1000

/-- MAX_ATTEMPTS (R6): attempts per acquisition, counting the first (spec/90_conflicts.md C7). -/
def maxAttempts : Nat := 4

/-- TS_W (R6): width of the timestamp counter and of every timestamp register. -/
abbrev tsW : Nat := 32

/-- SYNC_STAGES (R6): flip-flops in each input synchronizer, that is CS1 and CS2, DS1 and DS2. -/
def syncStages : Nat := 2

/-- BITCNT_W (R6). -/
abbrev bitcntW : Nat := 5

/-- ATT_W (R6). -/
abbrev attW : Nat := 3

/-- Width of the status word of R38: `attempts` and the three flags. -/
abbrev statusW : Nat := attW + 1 + 1 + 1

/-! The values below are FREE: they have no body, so nothing can be proved of what they are (R14, R109; log entries 3 to
5). Each is applied to the plain counter `draws` of the state, which every cycle advances. -/

/-- The level the clock-line synchronizer captures in a cycle whose pin is changing or not given (R109), and in a
phase shorter than 2 cycles (R205). -/
opaque freeClkLevel : Nat → Bool

/-- The level the data-line synchronizer captures in a cycle whose pin is changing or not given (R109), and beside a
rise around which the pin does not hold its level (R206). -/
opaque freeDataLevel : Nat → Bool

/-- The `us_tick` strobe of a cycle for which the platform's value is not given (R14, R106). -/
opaque freeTick : Nat → Bool

/-- The control word HOSTCTL of a cycle for which the host's request is not given (R14, R70). -/
opaque freeHostctl : Nat → BitVec 2

end Sys2Proof.Config
end

