-- ==== Sys2Proof/Word.lean ====
section
/-! DEFINITION. The bit-vector types of the block's registers (spec/10_state.md) and the word in which the model's host
puts one request. The widths are the named parameters of Table P1 (R6, R9), so that a corrected one changes no rule. -/

namespace Sys2Proof

/-- A timestamp: TS, T0, TSTART and TDLY (R26, R28 to R30). -/
abbrev Timestamp := BitVec Config.tsW

/-- The sampling shift register SR (R31). -/
abbrev Samples := BitVec Config.sampleBits

/-- A Raw Packet (R34, R65). -/
abbrev Packet := BitVec Config.packetBits

/-- The bit counter BITCNT (R32). -/
abbrev BitCount := BitVec Config.bitcntW

/-- The attempt counter ATT (R33). -/
abbrev AttemptCount := BitVec Config.attW

/-- The status word STATUS (R38). -/
abbrev StatusWord := BitVec Config.statusW

/-- One request of the host as a word: `bits`, of which bit 0 is the least significant, in a word of `nbits` bits.
DESIGN CHOICE (log entry 1): the spec gives HOSTCTL two wires and selects the queries by port (R70, R71); this word is
only how the model names one operation. -/
structure HostWord where
  nbits : Nat
  bits : Nat
  deriving DecidableEq, Repr

end Sys2Proof
end

