-- ==== Sys2Proof/Syntax.lean ====
section
/-! DEFINITION. The host operations and queries: one constructor per row of spec/opcode_table.json (R85, R71). -/

namespace Sys2Proof

/-- An operation of the host: a control operation, which takes one cycle of `clk` (R70), or a query, which reads an
output port within a cycle (R71). -/
inductive Instr where
  /-- NOP, HOSTCTL = 0b00 (R87). -/
  | nop
  /-- ACQUIRE, HOSTCTL = 0b01 (R86). -/
  | acquire
  /-- RESET, HOSTCTL = 0b1x; `start` is the bit x, which the block ignores (R88). -/
  | reset (start : Bool)
  /-- READ_PACKET: the port `packet` (R165). -/
  | readPacket
  /-- DIGITS_BCD: the port `digits_bcd` (R166). -/
  | digitsBcd
  /-- IS_NEGATIVE: the port `negative` (R167). -/
  | isNegative
  /-- IS_METRIC: the port `metric` (R168). -/
  | isMetric
  /-- IS_INCH: the port `inch` (R169). -/
  | isInch
  /-- IS_HALF: the port `half` (R170). -/
  | isHalf
  /-- READ_STATUS: the ports `busy`, `done`, `ok` and `attempts` (R89). -/
  | readStatus
  deriving DecidableEq, Repr

/-- The operations that only read an output port (R71): they take no cycle and change no register (R55). -/
def Instr.isQuery : Instr → Bool
  | .nop => false
  | .acquire => false
  | .reset _ => false
  | .readPacket => true
  | .digitsBcd => true
  | .isNegative => true
  | .isMetric => true
  | .isInch => true
  | .isHalf => true
  | .readStatus => true

end Sys2Proof
end

