-- ==== Sys2Proof/WellFormed.lean ====
section
/-! DEFINITION. Well-formed operations and host words. No control encoding is illegal (R70) and every query is valid in
every cycle (R71), so every operation is well formed; a host WORD is well formed when its size is one the table's rows
have and its bits fit that size (log entry 1). -/

namespace Sys2Proof

/-- R70, R71: no operation is illegal, whatever its operand. -/
def Instr.wellFormed : Instr → Bool
  | .nop => true
  | .acquire => true
  | .reset _ => true
  | .readPacket => true
  | .digitsBcd => true
  | .isNegative => true
  | .isMetric => true
  | .isInch => true
  | .isHalf => true
  | .readStatus => true

/-- The sizes the rows of the opcode table have in whole bytes. -/
def HostWord.sizeOk (w : HostWord) : Bool :=
  w.nbits == 8 || w.nbits == 24 || w.nbits == 32

/-- The word's bits fit its size. -/
def HostWord.bitsFit (w : HostWord) : Bool :=
  decide (w.bits < 2 ^ w.nbits)

/-- The form a host word needs before its bits are looked at. -/
def HostWord.wellFormed (w : HostWord) : Bool :=
  w.sizeOk && w.bitsFit

end Sys2Proof
end

