-- ==== Sys2Proof/Decode.lean ====
section
/-! DEFINITION. From a host word to an operation, and back. The spec's own encoding is HOSTCTL (R70), `Instr.ofHostctl`;
the queries are selected by port, not by an encoding (R71). So that one list can hold the host's whole program, the model
writes every operation as a word (DESIGN CHOICE, log entry 1): it has the opcode table's size for the row in whole bytes
and the row's `match` in its low bits, and its top bit is 1 only where the row's size and match are also an earlier row's
(IS_INCH beside READ_PACKET, READ_STATUS beside NOP). -/

namespace Sys2Proof

/-- Why a host word names no operation. Only the model's word form can be broken so: no value of HOSTCTL is illegal. -/
inductive DecodeError where
  /-- No row of the table has this size. -/
  | badSize (nbits : Nat)
  /-- The bits do not fit the word's size. -/
  | tooWide (bits : Nat)
  /-- An 8-bit word that is neither a value of HOSTCTL nor the status port's word. -/
  | notHostctl (bits : Nat)
  /-- A 24-bit or 32-bit word that is no port's word. -/
  | noSuchPort (bits : Nat)
  deriving DecidableEq, Repr

/-- The operation HOSTCTL = (rst, start) selects (R70): bit 1 is `rst`, bit 0 is `start`. -/
def Instr.ofHostctl (c : BitVec 2) : Instr :=
  if c.getLsbD 1 then .reset (c.getLsbD 0)
  else if c.getLsbD 0 then .acquire
  else .nop

/-- Words of 8 bits: the format HOSTCTL, and READ_STATUS with the top bit set. -/
def decodeByte (bits : Nat) : Except DecodeError Instr :=
  if bits = 0x80 then .ok .readStatus
  else if bits < 4 then .ok (Instr.ofHostctl (BitVec.ofNat 2 bits))
  else .error (.notHostctl bits)

/-- Words of 24 bits: DIGITS_BCD. -/
def decodeTriple (bits : Nat) : Except DecodeError Instr :=
  if bits = 0 then .ok .digitsBcd
  else .error (.noSuchPort bits)

/-- Words of 32 bits: the other ports of the format PKT_FIELD. -/
def decodeQuad (bits : Nat) : Except DecodeError Instr :=
  if bits = 0 then .ok .readPacket
  else if bits = 0x1000000 then .ok .isNegative
  else if bits = 0x2000000 then .ok .isHalf
  else if bits = 0x4000000 then .ok .isMetric
  else if bits = 0x80000000 then .ok .isInch
  else .error (.noSuchPort bits)

/-- The operation a host word names, or why it names none. -/
def decode (w : HostWord) : Except DecodeError Instr :=
  if w.sizeOk = false then .error (.badSize w.nbits)
  else if w.bitsFit = false then .error (.tooWide w.bits)
  else if w.nbits = 8 then decodeByte w.bits
  else if w.nbits = 24 then decodeTriple w.bits
  else decodeQuad w.bits

/-- The word of an operation, from R70 for the control operations and from the opcode table for the queries. -/
def encode : Instr → HostWord
  | .nop => ⟨8, 0b00⟩
  | .acquire => ⟨8, 0b01⟩
  | .reset start => ⟨8, 0b10 + start.toNat⟩
  | .readPacket => ⟨32, 0x0000000⟩
  | .digitsBcd => ⟨24, 0x00000⟩
  | .isNegative => ⟨32, 0x1000000⟩
  | .isMetric => ⟨32, 0x4000000⟩
  | .isInch => ⟨32, 0x80000000⟩
  | .isHalf => ⟨32, 0x2000000⟩
  | .readStatus => ⟨8, 0x80⟩

/-- The operation read from a word of the opcode table: `nbits` bits with the value `w`. -/
def decodeTableWord (nbits w : Nat) : Option Instr :=
  match decode ⟨nbits, w⟩ with
  | .ok i => some i
  | .error _ => none

end Sys2Proof
end

