-- ==== Sys2Proof/Machine/State.lean ====
section
/-! DEFINITION. The state: the block's sixteen registers (R23), and the model's own fields for the block's environment
(the host's requests, the levels on the pins, what the host last read, the counter the free values take). -/

namespace Sys2Proof.Machine

/-- The control state STATE, one name for each 3-bit code of Table E2 (R72). The two unused codes have names too, so that
their step (R73) is modelled. -/
inductive FsmState where
  /-- 0b000 (R117). -/
  | idle
  /-- 0b001 (R120). -/
  | syncHi
  /-- 0b010 (R121). -/
  | syncLo
  /-- 0b011 (R122). -/
  | sample
  /-- 0b100 (R123). -/
  | recoverDelay
  /-- 0b101 (R124). -/
  | recoverWaitLow
  /-- 0b110, unused (R73). -/
  | unused6
  /-- 0b111, unused (R73). -/
  | unused7
  deriving DecidableEq, Repr

/-- The registers of the block: exactly those of R23, and no other storage. -/
structure Regs where
  /-- CS1 (R24). -/
  cs1 : Bool
  /-- CS2 (R24). -/
  cs2 : Bool
  /-- CS3 (R24). -/
  cs3 : Bool
  /-- DS1 (R25). -/
  ds1 : Bool
  /-- DS2 (R25). -/
  ds2 : Bool
  /-- TS (R26). -/
  ts : Timestamp
  /-- STATE (R27). -/
  state : FsmState
  /-- T0 (R28). -/
  t0 : Timestamp
  /-- TSTART (R29). -/
  tstart : Timestamp
  /-- TDLY (R30). -/
  tdly : Timestamp
  /-- SR (R31). -/
  sr : Samples
  /-- BITCNT (R32). -/
  bitcnt : BitCount
  /-- ATT (R33). -/
  att : AttemptCount
  /-- PKT (R34). -/
  pkt : Packet
  /-- OK (R35). -/
  ok : Bool
  /-- DONE (R36). -/
  done : Bool
  deriving DecidableEq, Repr

/-- The reset values of Table S1 (R46). -/
def Regs.reset : Regs where
  cs1 := true
  cs2 := true
  cs3 := true
  ds1 := true
  ds2 := true
  ts := 0
  state := .idle
  t0 := 0
  tstart := 0
  tdly := 0
  sr := 0
  bitcnt := 0
  att := 0
  pkt := 0
  ok := false
  done := false

/-- The inputs I(n) of one cycle, each the value sampled at the edge that ends it (R13, R20). -/
structure Inputs where
  rst : Bool
  start : Bool
  calClk : Bool
  calData : Bool
  usTick : Bool
  deriving DecidableEq, Repr

/-- A caliper line at the edge that ends a cycle: a settled level, or a change inside the setup-and-hold window, which is
captured as either level (R109). -/
inductive Pin where
  | low
  | high
  | changing
  deriving DecidableEq, Repr

/-- What the environment drives in one cycle: the caliper its two lines, the platform `us_tick` (R14, R20). -/
structure Pins where
  calClk : Pin
  calData : Pin
  usTick : Bool
  deriving DecidableEq, Repr

/-- The value of the output port (for the status, the four ports of R89 packed as in R38) that a query read. -/
inductive PortValue where
  | packet (v : Packet)
  | digitsBcd (v : BitVec 20)
  | negative (v : Bool)
  | metric (v : Bool)
  | inch (v : Bool)
  | half (v : Bool)
  | status (v : StatusWord)
  deriving DecidableEq, Repr

/-- The machine: the block's registers and its environment. -/
structure State where
  /-- The block's state (R23). -/
  regs : Regs
  /-- The host's requests still to come, the next one first. The model's own field (log entry 3). -/
  hostQueue : List HostWord
  /-- The pins in the cycles to come, the present cycle first. The model's own field (log entry 4). -/
  pinQueue : List Pins
  /-- The pins of the three cycles before the present one, the latest first, as far as they were given. The model's own field
  (log entry 5). -/
  pastPins : List Pins
  /-- What the host's latest query read. The model's own field (log entry 6). -/
  hostRead : Option PortValue
  /-- The counter the free values take, advanced by every cycle. The model's own field (log entry 7). -/
  draws : Nat
  deriving DecidableEq, Repr

/-- The block has no fault: it "never traps, halts or stops its clock" (R180), and "No behaviour of the block is a
`fault`" (spec/93_implementation_defined.md). So this type has no constructor and no step answers a fault. -/
inductive Fault where
  deriving DecidableEq, Repr

/-- Why a step has no meaning. -/
inductive Refusal where
  /-- Raised by an arm of `exec` whose operation has no meaning yet; no arm does. Safe. -/
  | notModelled (mnemonic : String)
  /-- Raised by `step` when the host's next word names no operation: the hardware has no such word, since every value of
  HOSTCTL selects an operation (R70) and a port cannot be misnamed (R71). Safe: the model stops (log entry 2). -/
  | undecodable (why : DecodeError)
  deriving DecidableEq, Repr

/-- The machine right after reset: the registers of Table S1 (R46, R47), and an environment that has been given nothing
(log entries 3 to 7). -/
def State.reset : State where
  regs := Regs.reset
  hostQueue := []
  pinQueue := []
  pastPins := []
  hostRead := none
  draws := 0

end Sys2Proof.Machine
end

