-- ==== Sys2Proof/Machine/Operands.lean ====
section
/-! DEFINITION. What the rules read: levels and edges of the lines, elapsed time, the sampled bit, the fields of the Raw
Packet, the code of STATE, and what the synchronizers are given by the lines. -/

namespace Sys2Proof.Machine

/-- `clk_lvl` (R103). -/
def Regs.clkLvl (r : Regs) : Bool := r.cs2

/-- `data_lvl` (R103). -/
def Regs.dataLvl (r : Regs) : Bool := r.ds2

/-- `rise` (R104). -/
def Regs.rise (r : Regs) : Bool := r.cs2 && !r.cs3

/-- `fall` (R104). -/
def Regs.fall (r : Regs) : Bool := !r.cs2 && r.cs3

/-- `since(t)`, the ticks counted since timestamp t, modulo 2^TS_W (R12). -/
def Regs.since (r : Regs) (t : Timestamp) : Timestamp := r.ts - t

/-- The sample bit b: low means a transmitted 1 (R141). -/
def Regs.sampleBit (r : Regs) : Bool := !r.dataLvl

/-- The level a pin settles at in a cycle, if it does (R109). -/
def Pin.settled (p : Pin) : Option Bool :=
  match p with
  | .low => some false
  | .high => some true
  | .changing => none

/-- The level of `cal_clk` in the k-th of the given cycles; none where it changes or is not given. -/
def clkLine (ps : List Pins) (k : Nat) : Option Bool := ps[k]?.bind fun p => p.calClk.settled

/-- The level of `cal_data` in the k-th of the given cycles; none where it changes or is not given. -/
def dataLine (ps : List Pins) (k : Nat) : Option Bool := ps[k]?.bind fun p => p.calData.settled

/-- The middle one of three cycles is in a phase of 2 cycles or more: the line is at its level in the cycle before or after
too (R205). -/
def phaseLasts (before now next : Option Bool) : Bool := now.isSome && (before == now || next == now)

/-- The line holds one level from the cycle before to the cycle after (R206). -/
def levelHolds (before now next : Option Bool) : Bool := now.isSome && before == now && next == now

/-- The fields DIG4..DIG0 together (Table E1, R65). -/
def packetDigits (p : Packet) : BitVec 20 := p.extractLsb' 0 20

/-- Digit i of the magnitude, digit 0 the least significant (R75). -/
def packetDigit (p : Packet) (i : Nat) : BitVec 4 := p.extractLsb' (4 * i) 4

/-- RSVD_A (Table E1). -/
def packetRsvdA (p : Packet) : BitVec 4 := p.extractLsb' 20 4

/-- NEG (Table E1). -/
def packetNeg (p : Packet) : Bool := p.getLsbD 24

/-- HALF (Table E1). -/
def packetHalf (p : Packet) : Bool := p.getLsbD 25

/-- METRIC (Table E1). -/
def packetMetric (p : Packet) : Bool := p.getLsbD 26

/-- RSVD_B (Table E1). -/
def packetRsvdB (p : Packet) : Bool := p.getLsbD 27

/-- A packet word from chosen field values, with both reserved fields 0 (R173). -/
def packetOfFields (metric half neg : Bool) (d4 d3 d2 d1 d0 : BitVec 4) : Packet :=
  (BitVec.ofBool false ++ BitVec.ofBool metric ++ BitVec.ofBool half ++ BitVec.ofBool neg ++ (0 : BitVec 4)
    ++ d4 ++ d3 ++ d2 ++ d1 ++ d0).setWidth Config.packetBits

/-- The 3-bit code of a control state (Table E2, R72). -/
def fsmCode : FsmState → BitVec 3
  | .idle => 0b000
  | .syncHi => 0b001
  | .syncLo => 0b010
  | .sample => 0b011
  | .recoverDelay => 0b100
  | .recoverWaitLow => 0b101
  | .unused6 => 0b110
  | .unused7 => 0b111

/-- The output port `packet` (R165). -/
def Regs.packet (r : Regs) : Packet := r.pkt

/-- The output port `digits_bcd` (R166). -/
def Regs.digitsBcd (r : Regs) : BitVec 20 := packetDigits r.pkt

/-- The output port `negative` (R167). -/
def Regs.negative (r : Regs) : Bool := packetNeg r.pkt

/-- The output port `metric` (R168). -/
def Regs.metric (r : Regs) : Bool := packetMetric r.pkt

/-- The output port `inch` (R169). -/
def Regs.inch (r : Regs) : Bool := !packetMetric r.pkt

/-- The output port `half`, not gated by `inch` (R170). -/
def Regs.half (r : Regs) : Bool := packetHalf r.pkt

end Sys2Proof.Machine
end

