-- ==== Sys2Proof/Machine/Flags.lean ====
section
/-! DEFINITION. The flags (R41) and the tests the control unit makes. -/

namespace Sys2Proof.Machine

/-- `busy`, combinational (R37). -/
def Regs.busy (r : Regs) : Bool := r.state != .idle

/-- The status word STATUS = (ATT, OK, DONE, busy), with ATT in the high bits (R38). -/
def Regs.statusWord (r : Regs) : StatusWord :=
  r.att ++ BitVec.ofBool r.ok ++ BitVec.ofBool r.done ++ BitVec.ofBool r.busy

/-- `gap_ok`: the high period that ends now was an inter-packet gap (R119). -/
def Regs.gapOk (r : Regs) : Bool := decide (Config.syncGapUs ≤ (r.since r.t0).toNat)

/-- The recovery pause is over (R123). -/
def Regs.pauseOver (r : Regs) : Bool := decide (Config.recoveryUs ≤ (r.since r.tdly).toNat)

/-- The sample taken now is the last of the attempt (R144). -/
def Regs.lastSample (r : Regs) : Bool := r.bitcnt.toNat == Config.sampleBits - 1

/-- `elapsed`, the attempt's duration in ticks (R150). -/
def Regs.elapsed (r : Regs) : Timestamp := r.since r.tstart

/-- Every attempt of the budget has been begun (R150). -/
def Regs.budgetSpent (r : Regs) : Bool := r.att.toNat == Config.maxAttempts

end Sys2Proof.Machine
end

