-- ==== Sys2Proof/Machine/EdgeSynchronizer.lean ====
section
/-! DEFINITION. The sub-block edge_synchronizer (spec/41_edge_synchronizer.md) and the writes of every cycle (R116).
Throughout the sub-blocks `r` holds S(n), which every right side and condition reads, and `w` holds what is scheduled for
the next edge so far; a register that no rule writes keeps its value, and a later write wins (R11, R45, R115). -/

namespace Sys2Proof.Machine

/-- The clock-line synchronizer (R101). -/
def Regs.clockSync (r : Regs) (i : Inputs) (w : Regs) : Regs :=
  { w with cs1 := i.calClk, cs2 := r.cs1, cs3 := r.cs2 }

/-- The data-line synchronizer (R102). -/
def Regs.dataSync (r : Regs) (i : Inputs) (w : Regs) : Regs :=
  { w with ds1 := i.calData, ds2 := r.ds1 }

/-- The timestamp counter (R106). -/
def Regs.timebase (r : Regs) (i : Inputs) (w : Regs) : Regs :=
  { w with ts := r.ts + (BitVec.ofBool i.usTick).setWidth Config.tsW }

/-- The writes every cycle with `rst` = 0 makes (R116). -/
def Regs.everyCycle (r : Regs) (i : Inputs) : Regs :=
  { r.timebase i (r.dataSync i (r.clockSync i r)) with done := false }

end Sys2Proof.Machine
end

