-- ==== Sys2Proof/Machine/ShiftRegisterSampler.lean ====
section
/-! DEFINITION. The sub-block shift_register_sampler (spec/43_shift_register_sampler.md). -/

namespace Sys2Proof.Machine

/-- The shift: insert at the top, every older bit moves one place down (R142). SR is one bit longer than a packet (R7). -/
def shiftIn (b : Bool) (sr : Samples) : Samples :=
  BitVec.cons b (sr.extractLsb' 1 Config.packetBits)

/-- SR_next (R142). -/
def Regs.srNext (r : Regs) : Samples := shiftIn r.sampleBit r.sr

/-- The candidate packet: the low PACKET_BITS of the samples (R146). -/
def Regs.cand (r : Regs) : Packet := r.srNext.extractLsb' 0 Config.packetBits

/-- The write of SR in a SAMPLE cycle with `rise` (R142). -/
def Regs.takeSample (r w : Regs) : Regs :=
  { w with sr := r.srNext }

/-- The write of BITCNT at every rise but the last (R143). -/
def Regs.countSample (r w : Regs) : Regs :=
  { w with bitcnt := r.bitcnt + 1 }

end Sys2Proof.Machine
end

