-- ==== Sys2Proof/Machine/PacketValidator.lean ====
section
/-! DEFINITION. The sub-block packet_validator (spec/44_packet_validator.md). The block has no exception (R180): its one
reported error is the FAIL verdict, which `Regs.fail` writes (R181, R185). -/

namespace Sys2Proof.Machine

/-- The validator's three verdicts (R150). -/
inductive Verdict where
  | valid
  | retry
  | fail
  deriving DecidableEq, Repr

/-- The verdict of the completion cycle (R150). -/
def Regs.verdict (r : Regs) : Verdict :=
  if r.elapsed.toNat < Config.windowUs then .valid
  else if r.budgetSpent then .fail
  else .retry

/-- VALID: commit the packet (R151). -/
def Regs.commit (r w : Regs) : Regs :=
  { w with pkt := r.cand, ok := true, done := true, state := .idle }

/-- RETRY: start the recovery (R152). -/
def Regs.startRecovery (r w : Regs) : Regs :=
  { w with tdly := r.ts, state := .recoverDelay }

/-- FAIL: the Misalignment/Timeout result (R153, R181). -/
def Regs.fail (w : Regs) : Regs :=
  { w with pkt := 0, ok := false, done := true, state := .idle }

/-- The writes of the verdict. -/
def Regs.judge (r w : Regs) : Regs :=
  match r.verdict with
  | .valid => r.commit w
  | .retry => r.startRecovery w
  | .fail => Regs.fail w

end Sys2Proof.Machine
end

