-- ==== Sys2Proof/Machine/BitTimingFsm.lean ====
section
/-! DEFINITION. The sub-block bit_timing_fsm and the block's step (spec/42_bit_timing_fsm.md). -/

namespace Sys2Proof.Machine

/-- BeginAttempt (R125). -/
def Regs.beginAttempt (r w : Regs) : Regs :=
  { w with tstart := r.ts, sr := 0, bitcnt := 0, att := r.att + 1, state := .sample }

/-- IDLE: only `start` is read (R86, R117). -/
def Regs.idleArm (i : Inputs) (w : Regs) : Regs :=
  if i.start then { w with att := 0, state := .syncHi } else w

/-- SYNC_HI (R120). -/
def Regs.syncHiArm (r w : Regs) : Regs :=
  if r.rise then { w with t0 := r.ts, state := .syncLo } else w

/-- SYNC_LO (R121). -/
def Regs.syncLoArm (r w : Regs) : Regs :=
  if r.fall then
    if r.gapOk then r.beginAttempt w else { w with state := .syncHi }
  else w

/-- SAMPLE (R122). -/
def Regs.sampleArm (r w : Regs) : Regs :=
  if r.rise then
    if r.lastSample then r.judge (r.takeSample w) else r.countSample (r.takeSample w)
  else w

/-- RECOVER_DELAY (R123). -/
def Regs.recoverDelayArm (r w : Regs) : Regs :=
  if r.pauseOver then
    if r.fall then r.beginAttempt w else { w with state := .recoverWaitLow }
  else w

/-- RECOVER_WAIT_LOW (R124). -/
def Regs.recoverWaitLowArm (r w : Regs) : Regs :=
  if r.fall then r.beginAttempt w else w

/-- The unused codes of STATE (R73). -/
def Regs.unusedArm (w : Regs) : Regs :=
  { w with state := .idle }

/-- The one state arm that runs in a cycle (R115). -/
def Regs.arm (r : Regs) (i : Inputs) (w : Regs) : Regs :=
  match r.state with
  | .idle => Regs.idleArm i w
  | .syncHi => r.syncHiArm w
  | .syncLo => r.syncLoArm w
  | .sample => r.sampleArm w
  | .recoverDelay => r.recoverDelayArm w
  | .recoverWaitLow => r.recoverWaitLowArm w
  | .unused6 => Regs.unusedArm w
  | .unused7 => Regs.unusedArm w

/-- S(n+1) = Step(S(n), I(n)) (R115); `rst` overrides everything in its cycle (R188, R200). -/
def Regs.step (r : Regs) (i : Inputs) : Regs :=
  if i.rst then Regs.reset else r.arm i (r.everyCycle i)

/-- S(n+k) from S(n) and the inputs of k cycles, the first cycle first (R13). -/
def Regs.run (r : Regs) (is : List Inputs) : Regs :=
  is.foldl Regs.step r

end Sys2Proof.Machine
end

