-- ==== Sys2Proof/Machine/Ops.lean ====
section
/-! DEFINITION. The named operations over the whole state: the levels captured, one cycle of `clk`, one read of an
output port, the host's next request. There is no memory and no register that the host can write (R39, R50), and no
exception to take (R180). -/

namespace Sys2Proof.Machine

/-- The present cycle is in a phase of `cal_clk` that lasts 2 cycles or more (R205). -/
def State.clkLasts (s : State) : Bool :=
  phaseLasts (clkLine s.pastPins 0) (clkLine s.pinQueue 0) (clkLine s.pinQueue 1)

/-- The level CS1 captures: that of the line, and in a shorter phase a draw (R109, R205; log entry 5). -/
def State.capturedClk (s : State) : Bool :=
  if s.clkLasts then (clkLine s.pinQueue 0).getD (Config.freeClkLevel s.draws) else Config.freeClkLevel s.draws

/-- The clock is caught rising in the present cycle (R108). -/
def State.catchesRise (s : State) : Bool := s.capturedClk && !s.regs.cs1

/-- A rise caught in the present cycle can be one of the present cycle: the line is not low in it and was not high before. A
line that changed from low in the cycle before and is high now rose in that cycle. -/
def State.risesNow (s : State) : Bool :=
  clkLine s.pinQueue 0 != some false && clkLine s.pastPins 0 != some true &&
    !(clkLine s.pastPins 1 == some false && clkLine s.pastPins 0 == none && clkLine s.pinQueue 0 == some true)

/-- It can be one of the cycle before: CS1 was not captured from a line that was low. -/
def State.roseBefore (s : State) : Bool := clkLine s.pastPins 0 != some false

/-- It can be one of the cycle before that, where the line was low in none of the two and is not high now. -/
def State.roseEarlier (s : State) : Bool :=
  clkLine s.pastPins 0 != some false && clkLine s.pastPins 1 != some false && clkLine s.pinQueue 0 != some true

/-- It can be one of the next cycle: the line is low now, so that its low phase was missed. -/
def State.risesNext (s : State) : Bool := clkLine s.pinQueue 0 == some false

/-- `cal_data` holds one level from the cycle before to the cycle after every cycle whose rise can be the one caught in the
present cycle (R206, R108; log entry 5). -/
def State.dataHolds (s : State) : Bool :=
  (!s.risesNow || levelHolds (dataLine s.pastPins 0) (dataLine s.pinQueue 0) (dataLine s.pinQueue 1)) &&
  (!s.roseBefore || levelHolds (dataLine s.pastPins 1) (dataLine s.pastPins 0) (dataLine s.pinQueue 0)) &&
  (!s.roseEarlier || levelHolds (dataLine s.pastPins 2) (dataLine s.pastPins 1) (dataLine s.pastPins 0)) &&
  (!s.risesNext || levelHolds (dataLine s.pinQueue 0) (dataLine s.pinQueue 1) (dataLine s.pinQueue 2))

/-- The level DS1 captures: that of the line, and beside a rise around which it does not hold a draw (R109, R206; log entry
5). -/
def State.capturedData (s : State) : Bool :=
  if s.catchesRise && !s.dataHolds then Config.freeDataLevel s.draws
  else (dataLine s.pinQueue 0).getD (Config.freeDataLevel s.draws)

/-- The inputs of the present cycle: HOSTCTL from the host's operation (R70), the lines and the tick from the pins. Every input
that the pins do not give is a free value (R14, R109; log entries 4 and 5). -/
def State.cycleInputs (s : State) (rst start : Bool) : Inputs where
  rst := rst
  start := start
  calClk := s.capturedClk
  calData := s.capturedData
  usTick := (s.pinQueue.head?.map Pins.usTick).getD (Config.freeTick s.draws)

/-- The pins of the three cycles before the next one. -/
def State.pinsSeen (s : State) : List Pins :=
  match s.pinQueue with
  | [] => []
  | p :: _ => p :: s.pastPins.take 2

/-- One cycle of `clk` with the given `rst` and `start` (R115). -/
def State.cycle (s : State) (rst start : Bool) : State :=
  { s with
    regs := s.regs.step (s.cycleInputs rst start)
    pinQueue := s.pinQueue.tail
    pastPins := s.pinsSeen
    draws := s.draws + 1 }

/-- The host reads an output port: no register changes and no cycle passes (R55, R71; log entry 6). -/
def State.readPort (s : State) (v : PortValue) : State :=
  { s with hostRead := some v }

/-- The host's next request is taken off its list. -/
def State.popRequest (s : State) : State :=
  { s with hostQueue := s.hostQueue.tail }

/-- The host's next operation: the one its next word names, or, where no word is given, the one a free HOSTCTL selects
(R14, R70; log entry 3). -/
def State.nextOperation (s : State) : Except DecodeError Instr :=
  match s.hostQueue with
  | [] => .ok (Instr.ofHostctl (Config.freeHostctl s.draws))
  | w :: _ => decode w

end Sys2Proof.Machine
end

