-- ==== Sys2Proof/Machine/FieldDecoder.lean ====
section
/-! DEFINITION. The meanings of the packet and field queries (spec/45_field_decoder.md). -/

namespace Sys2Proof.Machine

/-- READ_PACKET (R165). -/
def execReadPacket (s : State) : Host.Outcome State Fault Refusal :=
  .next (s.readPort (.packet s.regs.packet))

/-- DIGITS_BCD (R166). -/
def execDigitsBcd (s : State) : Host.Outcome State Fault Refusal :=
  .next (s.readPort (.digitsBcd s.regs.digitsBcd))

/-- IS_NEGATIVE (R167). -/
def execIsNegative (s : State) : Host.Outcome State Fault Refusal :=
  .next (s.readPort (.negative s.regs.negative))

/-- IS_METRIC (R168). -/
def execIsMetric (s : State) : Host.Outcome State Fault Refusal :=
  .next (s.readPort (.metric s.regs.metric))

/-- IS_INCH (R169). -/
def execIsInch (s : State) : Host.Outcome State Fault Refusal :=
  .next (s.readPort (.inch s.regs.inch))

/-- IS_HALF (R170). -/
def execIsHalf (s : State) : Host.Outcome State Fault Refusal :=
  .next (s.readPort (.half s.regs.half))

end Sys2Proof.Machine
end

