-- ==== Sys2Proof/Machine/HostOperations.lean ====
section
/-! DEFINITION. The meanings of the host operations (spec/40_host_operations.md). -/

namespace Sys2Proof.Machine

/-- NOP (R87): the block takes its ordinary step with HOSTCTL = 0b00. -/
def execNop (s : State) : Host.Outcome State Fault Refusal :=
  .next (s.cycle false false)

/-- ACQUIRE (R86, R90): the block takes its step with HOSTCTL = 0b01, and takes `start` only in IDLE. -/
def execAcquire (s : State) : Host.Outcome State Fault Refusal :=
  .next (s.cycle false true)

/-- RESET (R88): HOSTCTL = 0b1x. -/
def execReset (start : Bool) (s : State) : Host.Outcome State Fault Refusal :=
  .next (s.cycle true start)

/-- READ_STATUS (R89). -/
def execReadStatus (s : State) : Host.Outcome State Fault Refusal :=
  .next (s.readPort (.status s.regs.statusWord))

end Sys2Proof.Machine
end

