-- ==== Sys2Proof/Machine/Dispatch.lean ====
section
/-! DEFINITION. One arm per operation, each a direct call of its meaning. -/

namespace Sys2Proof.Machine

def exec (i : Instr) (s : State) : Host.Outcome State Fault Refusal :=
  match i with
  | .nop => Sys2Proof.Machine.execNop s
  | .acquire => Sys2Proof.Machine.execAcquire s
  | .reset start => Sys2Proof.Machine.execReset start s
  | .readPacket => Sys2Proof.Machine.execReadPacket s
  | .digitsBcd => Sys2Proof.Machine.execDigitsBcd s
  | .isNegative => Sys2Proof.Machine.execIsNegative s
  | .isMetric => Sys2Proof.Machine.execIsMetric s
  | .isInch => Sys2Proof.Machine.execIsInch s
  | .isHalf => Sys2Proof.Machine.execIsHalf s
  | .readStatus => Sys2Proof.Machine.execReadStatus s

end Sys2Proof.Machine
end

