-- ==== Sys2Proof/Machine/Step.lean ====
section
/-! DEFINITION. One step: the host's next operation is taken off its list and run. A control operation is one cycle of
`clk`; a query takes place within a cycle (log entries 3 and 6). -/

namespace Sys2Proof.Machine

/-- One step of the machine. -/
def step (s : State) : Host.Outcome State Fault Refusal :=
  match s.nextOperation with
  | .error e => .refused (.undecodable e)
  | .ok i => exec i s.popRequest

/-- The state with a word of the opcode table as the host's next request (log entry 3). -/
def State.withFetchWord (s : State) (nbits w : Nat) : State :=
  { s with hostQueue := ⟨nbits, w⟩ :: s.hostQueue }

end Sys2Proof.Machine
end

