-- ==== Sys2Proof/Safety.lean ====
section
/-! DEFINITION. What counts as a safe state, and the words the claims are stated in. Nothing here is used by the step. -/

namespace Sys2Proof.Machine

/-- What a cycle with `rst` = 0 leaves when its state arm writes nothing: the writes of R101, R102, R106 and the default of
DONE (R116), every other register keeping its value (R45). Written out apart from the machine's own `everyCycle`. -/
def Regs.unmoved (r : Regs) (i : Inputs) : Regs :=
  { r with
    cs1 := i.calClk
    cs2 := r.cs1
    cs3 := r.cs2
    ds1 := i.calData
    ds2 := r.ds1
    ts := r.ts + (if i.usTick then 1 else 0)
    done := false }

/-- The cycle is the completion cycle of an attempt: the 29th rise, in SAMPLE (R144). -/
abbrev Regs.completes (r : Regs) : Prop :=
  r.state = .sample ∧ r.cs2 = true ∧ r.cs3 = false ∧ r.bitcnt = 28

/-- The completion cycle ends the acquisition: VALID or FAIL (R151, R153). -/
abbrev Regs.ends (r : Regs) : Prop :=
  r.completes ∧ ((r.ts - r.tstart).toNat < 900 ∨ r.att = 4)

/-- STATE holds one of the six codes in use (R73). -/
def Regs.codeInUse (r : Regs) : Prop :=
  r.state ≠ .unused6 ∧ r.state ≠ .unused7

/-- ATT and BITCNT stay in the ranges of R33 and R32. -/
def Regs.countersInRange (r : Regs) : Prop :=
  r.att.toNat ≤ 4 ∧ r.bitcnt.toNat ≤ 28

/-- ATT in each phase of an acquisition: none begun while synchronizing (R86), at least one while sampling (R125), and a
recovery only with an attempt left (R152). -/
def Regs.attemptsFit (r : Regs) : Prop :=
  match r.state with
  | .syncHi => r.att = 0
  | .syncLo => r.att = 0
  | .sample => 1 ≤ r.att.toNat
  | .recoverDelay => 1 ≤ r.att.toNat ∧ r.att.toNat < 4
  | .recoverWaitLow => 1 ≤ r.att.toNat ∧ r.att.toNat < 4
  | _ => True

/-- PKT, OK, DONE and ATT as a result: without success PKT is the sentinel 0 (R66, R183); DONE stands only in IDLE (R37);
in IDLE a success has at least one attempt, and a failure all 4 or, after reset, none (R89, R181). -/
def Regs.resultFits (r : Regs) : Prop :=
  (r.ok = false → r.pkt = 0) ∧
  (r.done = true → r.state = .idle ∧ r.att ≠ 0) ∧
  (r.state = .idle → (r.ok = true → r.att ≠ 0) ∧ (r.ok = false → r.att = 0 ∨ r.att = 4))

/-- In SYNC_LO the line has been seen high, so no rise can come before the fall (R121). -/
def Regs.highSeen (r : Regs) : Prop :=
  r.state = .syncLo → r.cs3 = true

/-- While sampling, the places of SR that no sample has reached are still clear (R140, R142). -/
def Regs.unfilledClear (r : Regs) : Prop :=
  r.state = .sample → r.sr.toNat % 2 ^ (29 - r.bitcnt.toNat) = 0

/-- A safe state of the block. -/
def Regs.Safe (r : Regs) : Prop :=
  r.codeInUse ∧ r.countersInRange ∧ r.attemptsFit ∧ r.resultFits ∧ r.highSeen ∧ r.unfilledClear

/-- A safe state of the machine. -/
def State.Safe (s : State) : Prop := s.regs.Safe

/-- The bits sampled in the cycles of a run: one for each cycle with a detected rise (R140, R141). -/
def Regs.samplesTaken : Regs → List Inputs → List Bool
  | _, [] => []
  | r, i :: is =>
    if r.rise then r.sampleBit :: (r.step i).samplesTaken is else (r.step i).samplesTaken is

/-- How many recovery pauses begin in the cycles of a run: one for each cycle that moves STATE from SAMPLE to RECOVER_DELAY
(R152). -/
def Regs.pausesBegun : Regs → List Inputs → Nat
  | _, [] => 0
  | r, i :: is =>
    (if r.state = .sample ∧ (r.step i).state = .recoverDelay then 1 else 0) + (r.step i).pausesBegun is

/-- Two states that differ at most in the registers the data line reaches: DS1, DS2, SR and PKT. -/
def Regs.SameControl (r q : Regs) : Prop :=
  q = { r with ds1 := q.ds1, ds2 := q.ds2, sr := q.sr, pkt := q.pkt }

/-- Two cycles' inputs that differ at most in `cal_data`. -/
def Inputs.SameButData (i j : Inputs) : Prop :=
  j = { i with calData := j.calData }

/-- The same state with every timestamp moved by `d` ticks, modulo 2^TS_W. -/
def Regs.shiftTime (d : Timestamp) (r : Regs) : Regs :=
  { r with ts := r.ts + d, t0 := r.t0 + d, tstart := r.tstart + d, tdly := r.tdly + d }

/-- The inputs of consecutive cycles, one for each pair of `rst` and `start` the host drives (R13, R70). -/
def State.inputsOver : State → List (Bool × Bool) → List Inputs
  | _, [] => []
  | s, c :: cs => s.cycleInputs c.1 c.2 :: (s.cycle c.1 c.2).inputsOver cs

/-- Two states that agree in STATE, ATT, DONE, the lines, TS and the registers that their STATE still reads before it writes
them: T0 in SYNC_LO (R121), TSTART, SR and BITCNT in SAMPLE (R122, R142, R150), TDLY in RECOVER_DELAY (R123), and the result
in the cycle of `done` (R91). -/
def Regs.SameAhead (r q : Regs) : Prop :=
  q.state = r.state ∧ q.att = r.att ∧ q.done = r.done ∧
  q.cs1 = r.cs1 ∧ q.cs2 = r.cs2 ∧ q.cs3 = r.cs3 ∧ q.ds1 = r.ds1 ∧ q.ds2 = r.ds2 ∧ q.ts = r.ts ∧
  (r.state = .syncLo → q.t0 = r.t0) ∧
  (r.state = .sample → q.tstart = r.tstart ∧ q.sr = r.sr ∧ q.bitcnt = r.bitcnt) ∧
  (r.state = .recoverDelay → q.tdly = r.tdly) ∧
  (r.done = true → q.pkt = r.pkt ∧ q.ok = r.ok)

/-- Two idle states that have seen the same lines and the same time: what an earlier acquisition left in the other
registers may differ. -/
def Regs.SameNow (r q : Regs) : Prop :=
  r.state = .idle ∧ q.state = .idle ∧ q.cs1 = r.cs1 ∧ q.cs2 = r.cs2 ∧ q.cs3 = r.cs3 ∧ q.ds1 = r.ds1 ∧ q.ds2 = r.ds2 ∧
    q.ts = r.ts

end Sys2Proof.Machine
end

