-- ==== Sys2Proof/Certificates/Slice0/Obligations.lean ====
section
/-! DEFINITION. The statements for the provers. `Regs.step r i` is Step(S(n), I(n)) of R115; that the control operations
run it is ControlOperationsTakeOneCycle. `r.unmoved i` (Safety.lean) is what a cycle leaves whose state arm writes
nothing, so that `{ r.unmoved i with … }` names every register a rule writes and, by that, its frame. -/

open Sys2Proof Sys2Proof.Machine

/-! ## Encodings and the host's requests -/

/-- Every host word names at most one operation and every operation has exactly one word, with every bit of it fixed. The
word form is the model's own choice (log entry 1); its HOSTCTL part is R70's. -/
def Obligations.WordsAndOperationsCorrespond : Prop :=
  ∀ (w : HostWord) (i : Instr), decode w = .ok i ↔ w = encode i

/-- R70: the four values of HOSTCTL select NOP, ACQUIRE and RESET, none is illegal, and ACQUIRE in a state other than
IDLE acts as NOP. -/
def Obligations.HostctlSelectsTheOperation : Prop :=
  Instr.ofHostctl 0b00 = .nop ∧ Instr.ofHostctl 0b01 = .acquire ∧
  Instr.ofHostctl 0b10 = .reset false ∧ Instr.ofHostctl 0b11 = .reset true ∧
  ∀ s : State, s.regs.state ≠ .idle → exec .acquire s = exec .nop s

/-- Words written out from R70 and the opcode table decode to their rows' operations, and an 8-bit word with a value of
HOSTCTL in it to the operation that value selects. The words are the model's own form (log entry 1). -/
def Obligations.WrittenOutWordsDecode : Prop :=
  decode ⟨8, 0b00⟩ = .ok .nop ∧ decode ⟨8, 0b01⟩ = .ok .acquire ∧ decode ⟨8, 0b10⟩ = .ok (.reset false) ∧
  decode ⟨32, 0x1000000⟩ = .ok .isNegative ∧ decode ⟨32, 0x2000000⟩ = .ok .isHalf ∧
  decode ⟨32, 0x4000000⟩ = .ok .isMetric ∧
  ∀ c : BitVec 2, decode ⟨8, c.toNat⟩ = .ok (Instr.ofHostctl c)

/-- A step runs the operation that the host's next word names, on the state with that word taken off the list; a word
that names none is refused by name (log entries 2 and 3). -/
def Obligations.StepRunsTheDecodedOperation : Prop :=
  ∀ (s : State) (w : HostWord) (rest : List HostWord), s.hostQueue = w :: rest →
    (∀ i, decode w = .ok i → step s = exec i { s with hostQueue := rest }) ∧
    (∀ e, decode w = .error e → step s = .refused (.undecodable e))

/-- Where no request is given, a step runs the operation that a free value of HOSTCTL selects, whichever it is (R14, R70;
log entry 3). -/
def Obligations.StepWithoutRequestRunsSomeControlOperation : Prop :=
  ∀ s : State, s.hostQueue = [] → ∃ c : BitVec 2, step s = exec (Instr.ofHostctl c) s

/-- R180: every operation answers a next state in every state, and no step of the machine answers a fault. -/
def Obligations.NoOperationStops : Prop :=
  (∀ (i : Instr) (s : State), ∃ t, exec i s = .next t) ∧ ∀ (s : State) (f : Fault), step s ≠ .fault f

/-! ## The control operations -/

/-- NOP, ACQUIRE and RESET each answer a next state in every state: one cycle of the block with their HOSTCTL, and of the
model's own fields the pins of that cycle moved to the past ones and the counter of free values advanced, nothing else (log
entries 4, 5 and 7). -/
def Obligations.ControlOperationsTakeOneCycle : Prop :=
  ∀ s : State,
    let past := if s.pinQueue = [] then [] else s.pinQueue.take 1 ++ s.pastPins.take 2
    exec .nop s = .next { s with
      regs := s.regs.step (s.cycleInputs false false), pinQueue := s.pinQueue.drop 1, pastPins := past,
      draws := s.draws + 1 } ∧
    exec .acquire s = .next { s with
      regs := s.regs.step (s.cycleInputs false true), pinQueue := s.pinQueue.drop 1, pastPins := past,
      draws := s.draws + 1 } ∧
    ∀ x, exec (.reset x) s = .next { s with
      regs := s.regs.step (s.cycleInputs true x), pinQueue := s.pinQueue.drop 1, pastPins := past,
      draws := s.draws + 1 }

/-- In every state the inputs of a cycle hold the host's HOSTCTL. Where pins are given, `us_tick` is theirs, and a changing
pin is captured as a free level (R109); where none are given, all three inputs are free (R14; log entries 4 and 5). A free
value is an opaque constant applied to `draws`, of which nothing can be proved. -/
def Obligations.PinsGiveTheInputsOfTheCycle : Prop :=
  ∀ (s : State) (rst start : Bool),
    (s.cycleInputs rst start).rst = rst ∧ (s.cycleInputs rst start).start = start ∧
    (s.pinQueue = [] →
      (s.cycleInputs rst start).calClk = Config.freeClkLevel s.draws ∧
      (s.cycleInputs rst start).calData = Config.freeDataLevel s.draws ∧
      (s.cycleInputs rst start).usTick = Config.freeTick s.draws) ∧
    ∀ (p : Pins) (rest : List Pins), s.pinQueue = p :: rest →
      (s.cycleInputs rst start).usTick = p.usTick ∧
      (p.calClk = .changing → (s.cycleInputs rst start).calClk = Config.freeClkLevel s.draws) ∧
      (p.calData = .changing → (s.cycleInputs rst start).calData = Config.freeDataLevel s.draws)

/-- R205: a high or low phase of `cal_clk` of 2 or more cycles is captured at its level in every one of its cycles, whatever
the host does meanwhile and whatever came before or comes after. -/
def Obligations.LongClockPhaseIsSeenWhole : Prop :=
  ∀ (cs : List (Bool × Bool)) (phase rest : List Pins) (s : State) (v : Bool),
    s.pinQueue = phase ++ rest → 2 ≤ phase.length → cs.length = phase.length →
    (∀ p ∈ phase, p.calClk = if v then .high else .low) →
    ∀ i ∈ s.inputsOver cs, i.calClk = v

/-- R205: a phase of `cal_clk` of one cycle may be missed or seen: the level captured is a free value, the level of the phase
or that of the line around it. So it is, too, where the cycles given before and after do not show the line at its level (log
entry 5). -/
def Obligations.ShortClockPhaseIsADraw : Prop :=
  ∀ (s : State) (p : Pins) (rest : List Pins) (rst start : Bool), s.pinQueue = p :: rest →
    (∀ b, s.pastPins[0]? = some b → b.calClk ≠ p.calClk) → (∀ x, rest[0]? = some x → x.calClk ≠ p.calClk) →
    (s.cycleInputs rst start).calClk = Config.freeClkLevel s.draws

/-- R206, R108: where the line is low in the cycle before, however short that low is, and not low in this one, `cal_data` at
one level from the cycle before to the cycle after is captured as that level; if it is not and the clock is caught rising,
the data level is a free value. So it is around the cycle before for a rise whose line changed in it from low and is caught
in this one. That `1 cycle before` and `1 cycle after` are the two neighbouring cycles, and how a late rise is dated, is log
entry 5. -/
def Obligations.DataIsSampledWhereItHoldsAroundTheRise : Prop :=
  ∀ (s : State) (rst start : Bool),
    (∀ (b p x : Pins) (old rest : List Pins), s.pastPins = b :: old → s.pinQueue = p :: x :: rest →
      b.calClk = .low → p.calClk ≠ .low →
      (b.calData = p.calData → p.calData = x.calData →
        (p.calData = .high → (s.cycleInputs rst start).calData = true) ∧
        (p.calData = .low → (s.cycleInputs rst start).calData = false)) ∧
      (s.regs.cs1 = false → (s.cycleInputs rst start).calClk = true →
        b.calData ≠ p.calData ∨ p.calData ≠ x.calData →
        (s.cycleInputs rst start).calData = Config.freeDataLevel s.draws)) ∧
    ∀ (b2 b p : Pins) (old rest : List Pins), s.pastPins = b :: b2 :: old → s.pinQueue = p :: rest →
      b2.calClk = .low → b.calClk = .changing → p.calClk = .high →
      (b2.calData = b.calData → b.calData = p.calData →
        (p.calData = .high → (s.cycleInputs rst start).calData = true) ∧
        (p.calData = .low → (s.cycleInputs rst start).calData = false)) ∧
      (s.regs.cs1 = false → (s.cycleInputs rst start).calClk = true →
        b2.calData ≠ b.calData ∨ b.calData ≠ p.calData →
        (s.cycleInputs rst start).calData = Config.freeDataLevel s.draws)

/-- R206: whatever the clock line does, `cal_data` at one level in the three cycles before, this one and the two after is
captured as that level: only data that moves near a rise makes a draw (log entry 5). -/
def Obligations.HeldDataIsCapturedWhateverTheClock : Prop :=
  ∀ (s : State) (b b2 b3 p x y : Pins) (old rest : List Pins) (v rst start : Bool),
    s.pastPins = b :: b2 :: b3 :: old → s.pinQueue = p :: x :: y :: rest →
    (∀ q ∈ [b3, b2, b, p, x, y], q.calData = if v then .high else .low) →
    (s.cycleInputs rst start).calData = v

/-- R46, R200: RESET, with either value of `start`, answers from every state the state whose every register holds its
value of Table S1, as the machine's own reset state does. -/
def Obligations.ResetOperationGivesTableS1 : Prop :=
  ∀ (x : Bool) (s : State), ∃ t, exec (.reset x) s = .next t ∧ t.regs = State.reset.regs ∧
    t.regs.cs1 = true ∧ t.regs.cs2 = true ∧ t.regs.cs3 = true ∧ t.regs.ds1 = true ∧ t.regs.ds2 = true ∧
    t.regs.ts = 0 ∧ t.regs.state = .idle ∧ t.regs.t0 = 0 ∧ t.regs.tstart = 0 ∧ t.regs.tdly = 0 ∧
    t.regs.sr = 0 ∧ t.regs.bitcnt = 0 ∧ t.regs.att = 0 ∧ t.regs.pkt = 0 ∧ t.regs.ok = false ∧ t.regs.done = false

/-- R86: ACQUIRE in IDLE clears ATT and moves STATE to SYNC_HI; OK and PKT keep the previous result, and no other register
changes but those every cycle writes. In any other state it is NOP, and beside `rst` = 1 it is overridden. -/
def Obligations.AcquireStartsOnlyInIdle : Prop :=
  ∀ s : State,
    (s.regs.state = .idle → ∃ t, exec .acquire s = .next t ∧
      t.regs = { s.regs.unmoved (s.cycleInputs false true) with att := 0, state := .syncHi } ∧
      t.regs.busy = true ∧ t.regs.ok = s.regs.ok ∧ t.regs.pkt = s.regs.pkt) ∧
    (s.regs.state ≠ .idle → exec .acquire s = exec .nop s) ∧
    exec (.reset true) s = exec (.reset false) s

/-- R90: ACQUIRE while STATE is not IDLE is the same operation as NOP: not queued, not counted, not reported. -/
def Obligations.AcquireWhileBusyIsIgnored : Prop :=
  ∀ s : State, s.regs.busy = true → exec .acquire s = exec .nop s

/-- R87: NOP writes nothing on the host's behalf: in every state it answers the block's ordinary step with HOSTCTL =
0b00, and in IDLE it leaves every register but CS1, CS2, CS3, DS1, DS2, TS and DONE as it was. -/
def Obligations.NopDoesNothingForTheHost : Prop :=
  ∀ s : State, ∃ t, exec .nop s = .next t ∧ t.regs = s.regs.step (s.cycleInputs false false) ∧
    (s.regs.state = .idle → t.regs = s.regs.unmoved (s.cycleInputs false false))

/-! ## The edge synchronizer and the step -/

/-- R101, R102, R106, R116: whatever the state arm does, every cycle with `rst` = 0 moves both synchronizers on, counts the
tick modulo 2^32 and writes DONE: 1 where the arm ends an acquisition, else 0, so that it is 1 for one cycle only. -/
def Obligations.EveryCycleMovesLinesAndTime : Prop :=
  ∀ (r : Regs) (i : Inputs), i.rst = false →
    (r.step i).cs1 = i.calClk ∧ (r.step i).cs2 = r.cs1 ∧ (r.step i).cs3 = r.cs2 ∧
    (r.step i).ds1 = i.calData ∧ (r.step i).ds2 = r.ds1 ∧
    (r.step i).ts.toNat = (r.ts.toNat + i.usTick.toNat) % 2 ^ 32 ∧
    ((r.step i).done = true ↔ r.ends) ∧
    ((r.step i).done = true → ∀ j : Inputs, ((r.step i).step j).done = false)

/-- R104, R108: a pin that rises in a cycle and holds for that cycle and the next is seen as a rise exactly two cycles
later, with the data level of the same input cycle beside it, and as no edge in the cycle after; and so a fall. -/
def Obligations.PinEdgeIsSeenOnceTwoCyclesLater : Prop :=
  ∀ (r : Regs) (i j k : Inputs), i.rst = false → j.rst = false → k.rst = false →
    j.calClk = i.calClk → i.calClk ≠ r.cs1 →
    ((r.run [i, j]).rise = true ↔ i.calClk = true) ∧ ((r.run [i, j]).fall = true ↔ i.calClk = false) ∧
    (r.run [i, j]).dataLvl = i.calData ∧
    (r.run [i, j, k]).rise = false ∧ (r.run [i, j, k]).fall = false

/-- R47: after reset the block is in IDLE with `busy` = 0 and `done` = 0; and while `start` stays 0 an IDLE block stays in
IDLE, whatever the lines do, and keeps every register but the synchronizers, TS and DONE. -/
def Obligations.IdleWaitsForStart : Prop :=
  (State.reset.regs.state = .idle ∧ State.reset.regs.busy = false ∧ State.reset.regs.done = false) ∧
  ∀ (is : List Inputs) (r : Regs), r.state = .idle → (∀ i ∈ is, i.rst = false ∧ i.start = false) →
    (r.run is).state = .idle ∧ (r.run is).busy = false ∧ (r.run is).t0 = r.t0 ∧ (r.run is).tstart = r.tstart ∧
    (r.run is).tdly = r.tdly ∧ (r.run is).sr = r.sr ∧ (r.run is).bitcnt = r.bitcnt ∧ (r.run is).att = r.att ∧
    (r.run is).pkt = r.pkt ∧ (r.run is).ok = r.ok

/-- R120: SYNC_HI takes a rise, and only a rise: T0 gets the TS of that cycle. -/
def Obligations.SyncHiTakesTheRise : Prop :=
  ∀ (r : Regs) (i : Inputs), i.rst = false → r.state = .syncHi →
    ((r.cs2 = true ∧ r.cs3 = false) → r.step i = { r.unmoved i with t0 := r.ts, state := .syncLo }) ∧
    (¬(r.cs2 = true ∧ r.cs3 = false) → r.step i = r.unmoved i)

/-- R119: in SYNC_LO a fall 800 or more ticks after T0, modulo 2^32, begins an attempt; a fall 799 or fewer ticks after
it goes back to SYNC_HI; nothing else is taken. -/
def Obligations.SyncLoTestsTheGap : Prop :=
  ∀ (r : Regs) (i : Inputs), i.rst = false → r.state = .syncLo →
    ((r.cs2 = false ∧ r.cs3 = true) → 800 ≤ (r.ts - r.t0).toNat →
      r.step i = { r.unmoved i with
        tstart := r.ts, sr := 0, bitcnt := 0, att := r.att + 1, state := .sample }) ∧
    ((r.cs2 = false ∧ r.cs3 = true) → (r.ts - r.t0).toNat ≤ 799 →
      r.step i = { r.unmoved i with state := .syncHi }) ∧
    (¬(r.cs2 = false ∧ r.cs3 = true) → r.step i = r.unmoved i)

/-- R142, R143: every rise in SAMPLE inserts the inverted data level at bit 28 of SR and moves every older bit one place
down; each rise before the 29th is counted and writes nothing else, and the 29th leaves BITCNT at 28. Without a rise
nothing is taken. -/
def Obligations.SampleTakesOneBitPerRise : Prop :=
  ∀ (r : Regs) (i : Inputs), i.rst = false → r.state = .sample →
    ((r.cs2 = true ∧ r.cs3 = false) →
      ((r.step i).sr.getLsbD 28 = (!r.ds2) ∧ ∀ k < 28, (r.step i).sr.getLsbD k = r.sr.getLsbD (k + 1)) ∧
      (r.bitcnt ≠ 28 → r.step i = { r.unmoved i with sr := (r.step i).sr, bitcnt := r.bitcnt + 1 }) ∧
      (r.bitcnt = 28 → (r.step i).bitcnt = 28)) ∧
    (¬(r.cs2 = true ∧ r.cs3 = false) → r.step i = r.unmoved i)

/-! ## The validator -/

/-- R151: the 29th rise less than 900 ticks, modulo 2^32, after TSTART commits the low 28 of the 29 samples: PKT, OK, DONE
and STATE are written in the same cycle, whatever the samples are and whichever attempt it is. -/
def Obligations.ValidVerdictCommitsThePacket : Prop :=
  ∀ (r : Regs) (i : Inputs), i.rst = false → r.completes → (r.ts - r.tstart).toNat < 900 →
    ∃ (sr' : Samples) (pkt' : Packet),
      r.step i = { r.unmoved i with sr := sr', pkt := pkt', ok := true, done := true, state := .idle } ∧
      sr'.getLsbD 28 = (!r.ds2) ∧ (∀ k < 28, sr'.getLsbD k = r.sr.getLsbD (k + 1)) ∧
      ∀ k < 28, pkt'.getLsbD k = sr'.getLsbD k

/-- R152: an overrun with an attempt left starts the recovery pause in the cycle of the verdict; PKT, OK and ATT keep
their values. -/
def Obligations.RetryVerdictStartsTheRecovery : Prop :=
  ∀ (r : Regs) (i : Inputs), i.rst = false → r.completes → 900 ≤ (r.ts - r.tstart).toNat → r.att ≠ 4 →
    ∃ sr' : Samples,
      r.step i = { r.unmoved i with sr := sr', tdly := r.ts, state := .recoverDelay } ∧
      sr'.getLsbD 28 = (!r.ds2) ∧ ∀ k < 28, sr'.getLsbD k = r.sr.getLsbD (k + 1)

/-- R153: the fourth overrun zeroes PKT and OK, pulses DONE and ends the acquisition at once, with no pause. -/
def Obligations.FailVerdictZeroesThePacket : Prop :=
  ∀ (r : Regs) (i : Inputs), i.rst = false → r.completes → 900 ≤ (r.ts - r.tstart).toNat → r.att = 4 →
    ∃ sr' : Samples,
      r.step i = { r.unmoved i with sr := sr', pkt := 0, ok := false, done := true, state := .idle } ∧
      sr'.getLsbD 28 = (!r.ds2) ∧ ∀ k < 28, sr'.getLsbD k = r.sr.getLsbD (k + 1)

/-! ## Recovery -/

/-- R123: the pause ends in the first cycle with 10000 or more ticks since TDLY; a fall in that cycle begins the next
attempt, and otherwise the block waits for one; before that every edge is ignored. -/
def Obligations.RecoverDelayWaitsOutThePause : Prop :=
  ∀ (r : Regs) (i : Inputs), i.rst = false → r.state = .recoverDelay →
    ((r.ts - r.tdly).toNat < 10000 → r.step i = r.unmoved i) ∧
    (10000 ≤ (r.ts - r.tdly).toNat → (r.cs2 = false ∧ r.cs3 = true) →
      r.step i = { r.unmoved i with
        tstart := r.ts, sr := 0, bitcnt := 0, att := r.att + 1, state := .sample }) ∧
    (10000 ≤ (r.ts - r.tdly).toNat → ¬(r.cs2 = false ∧ r.cs3 = true) →
      r.step i = { r.unmoved i with state := .recoverWaitLow })

/-- R124: RECOVER_WAIT_LOW takes a fall, and only a fall, as the start of a packet, with no gap test. -/
def Obligations.RecoverWaitLowTakesTheFall : Prop :=
  ∀ (r : Regs) (i : Inputs), i.rst = false → r.state = .recoverWaitLow →
    ((r.cs2 = false ∧ r.cs3 = true) →
      r.step i = { r.unmoved i with
        tstart := r.ts, sr := 0, bitcnt := 0, att := r.att + 1, state := .sample }) ∧
    (¬(r.cs2 = false ∧ r.cs3 = true) → r.step i = r.unmoved i)

/-- R73: an unused code of STATE goes to IDLE and writes nothing else: DONE does not pulse, PKT and OK stay. -/
def Obligations.UnusedCodesGoToIdle : Prop :=
  ∀ (r : Regs) (i : Inputs), i.rst = false → r.state = .unused6 ∨ r.state = .unused7 →
    r.step i = { r.unmoved i with state := .idle } ∧
    (r.step i).done = false ∧ (r.step i).pkt = r.pkt ∧ (r.step i).ok = r.ok

/-- R123: in every cycle with fewer than 10000 ticks since TDLY the block stays in RECOVER_DELAY, whatever the lines and
`start` do, and TDLY, ATT, PKT and OK keep their values. The last cycle's own tick counts only for the cycle after it. -/
def Obligations.PauseIsNeverShorter : Prop :=
  ∀ (is : List Inputs) (r : Regs), r.state = .recoverDelay → (∀ i ∈ is, i.rst = false) →
    (r.ts - r.tdly).toNat + is.dropLast.countP (fun i => i.usTick) < 10000 →
    (r.run is).state = .recoverDelay ∧ (r.run is).tdly = r.tdly ∧ (r.run is).att = r.att ∧
    (r.run is).pkt = r.pkt ∧ (r.run is).ok = r.ok

/-- R126: RECOVER_DELAY ends if `us_tick` keeps running: within 10001 cycles that each hold a tick the block has left it. -/
def Obligations.PauseEndsIfTimeRuns : Prop :=
  ∀ (is : List Inputs) (r : Regs), r.state = .recoverDelay → is.length = 10001 →
    (∀ i ∈ is, i.rst = false ∧ i.usTick = true) →
    ∃ n ≤ 10001, (r.run (is.take n)).state ≠ .recoverDelay

/-! ## Whole-machine rules -/

/-- R127 with R73: the next value of STATE in every state with ATT and BITCNT in their ranges (an invariant, part of
StepKeepsTheStateSafe) and for every input, the whole transition graph. -/
def Obligations.StateMovesOnlyAlongTheGraph : Prop :=
  ∀ (r : Regs) (i : Inputs), r.countersInRange →
    (r.step i).state =
      if i.rst = true then .idle
      else if r.state = .idle ∧ i.start = true then .syncHi
      else if r.state = .syncHi ∧ r.cs2 = true ∧ r.cs3 = false then .syncLo
      else if r.state = .syncLo ∧ r.cs2 = false ∧ r.cs3 = true then
        if (r.ts - r.t0).toNat < 800 then .syncHi else .sample
      else if r.completes then
        if (r.ts - r.tstart).toNat < 900 then .idle else if r.att.toNat < 4 then .recoverDelay else .idle
      else if r.state = .recoverDelay ∧ 10000 ≤ (r.ts - r.tdly).toNat then
        if r.cs2 = false ∧ r.cs3 = true then .sample else .recoverWaitLow
      else if r.state = .recoverWaitLow ∧ r.cs2 = false ∧ r.cs3 = true then .sample
      else if r.state = .unused6 ∨ r.state = .unused7 then .idle
      else r.state

/-- R36: DONE is 1 exactly in the cycle after one in which an acquisition ended, and 0 otherwise. -/
def Obligations.DoneMarksTheEndOfAnAcquisition : Prop :=
  ∀ (r : Regs) (i : Inputs), (r.step i).done = true ↔ i.rst = false ∧ r.ends

/-- R157: PKT is written only by VALID, by FAIL and by reset, so in every other cycle it and every field output keep
their values. -/
def Obligations.PacketIsWrittenOnlyAtTheEnd : Prop :=
  ∀ (r : Regs) (i : Inputs), i.rst = false → ¬r.ends →
    (r.step i).packet = r.packet ∧ (r.step i).digitsBcd = r.digitsBcd ∧ (r.step i).negative = r.negative ∧
    (r.step i).metric = r.metric ∧ (r.step i).inch = r.inch ∧ (r.step i).half = r.half ∧ (r.step i).ok = r.ok

/-- R95: an acquisition is left only at its end or by reset; nothing else the host, the caliper or the time does makes
the block idle. -/
def Obligations.OnlyResetCancelsAnAcquisition : Prop :=
  ∀ (r : Regs) (i : Inputs), r.codeInUse → r.busy = true → (r.step i).busy = false → i.rst = true ∨ r.ends

/-- R126: as long as no cycle shows a rise, SYNC_HI and SAMPLE wait, and as long as none shows a fall, SYNC_LO and
RECOVER_WAIT_LOW, with `busy` = 1 and no result, whatever else the lines, the time and `start` do; and a pause that is not
over does not end while `us_tick` stays 0. -/
def Obligations.WaitsHaveNoTimeout : Prop :=
  (∀ (is : List Inputs) (r : Regs), r.state = .syncHi ∨ r.state = .sample → (∀ i ∈ is, i.rst = false) →
    (∀ n < is.length, ¬((r.run (is.take n)).cs2 = true ∧ (r.run (is.take n)).cs3 = false)) →
    (r.run is).state = r.state ∧ (r.run is).busy = true ∧ (r.run is).pkt = r.pkt ∧ (r.run is).ok = r.ok ∧
    (r.run is).att = r.att) ∧
  (∀ (is : List Inputs) (r : Regs), r.state = .syncLo ∨ r.state = .recoverWaitLow → (∀ i ∈ is, i.rst = false) →
    (∀ n < is.length, ¬((r.run (is.take n)).cs2 = false ∧ (r.run (is.take n)).cs3 = true)) →
    (r.run is).state = r.state ∧ (r.run is).busy = true ∧ (r.run is).pkt = r.pkt ∧ (r.run is).ok = r.ok ∧
    (r.run is).att = r.att) ∧
  ∀ (is : List Inputs) (r : Regs), r.state = .recoverDelay → (r.ts - r.tdly).toNat < 10000 →
    (∀ i ∈ is, i.rst = false ∧ i.usTick = false) →
    (r.run is).state = .recoverDelay ∧ (r.run is).busy = true

/-- R33, R158: from the first attempt of an acquisition to its end, whatever its cycles are, it takes one recovery pause
fewer than the attempts ATT then shows, and at most 3. (`start` stays 0, so that no further acquisition begins.) -/
def Obligations.AttemptsCountThePauses : Prop :=
  ∀ (is : List Inputs) (r : Regs), r.state = .sample → r.att = 1 → (∀ i ∈ is, i.rst = false ∧ i.start = false) →
    (r.run is).state = .idle →
    (r.run is).att.toNat = r.pausesBegun is + 1 ∧ r.pausesBegun is ≤ 3

/-- The reset state is safe (R46, R73). -/
def Obligations.ResetStateIsSafe : Prop := State.reset.Safe

/-- Every step keeps a safe state safe: the code of STATE stays one in use, ATT and BITCNT stay in range and fit the phase
of the acquisition, PKT, OK, DONE and ATT stay a result, SYNC_LO is reached only with the line seen high, and the places
of SR not yet reached stay clear. -/
def Obligations.StepKeepsTheStateSafe : Prop :=
  ∀ s t : State, s.Safe → step s = .next t → t.Safe

/-- R51: the bits sampled at the 28 rises of an attempt before its last are, in order of arrival and from bit 0 up, the
packet that a VALID verdict stores, that is where fewer than 900 ticks have elapsed at the 29th rise; the 29th sample is
dropped. -/
def Obligations.SampledBitsFillThePacketInOrder : Prop :=
  ∀ (is : List Inputs) (last : Inputs) (r : Regs), r.state = .sample → r.bitcnt = 0 →
    (∀ i ∈ is, i.rst = false) → last.rst = false →
    (r.samplesTaken is).length = 28 → (r.run is).rise = true →
    ((r.run is).ts - r.tstart).toNat < 900 →
    (r.run (is ++ [last])).state = .idle ∧ (r.run (is ++ [last])).done = true ∧ (r.run (is ++ [last])).ok = true ∧
    (r.run (is ++ [last])).att = r.att ∧
    ∀ k < 28, (r.samplesTaken is)[k]? = some ((r.run (is ++ [last])).pkt.getLsbD k)

/-- R147, R154: no value on the data line changes what the block does: two runs that differ only in `cal_data`, from
states that differ only in what the data line reaches, agree in every cycle on every other register. -/
def Obligations.DataLineNeverMovesTheControl : Prop :=
  ∀ (is js : List Inputs) (r q : Regs), List.Forall₂ Inputs.SameButData is js → r.SameControl q →
    (r.run is).SameControl (q.run js)

/-- R12: only differences of timestamps are used. Moving TS, T0, TSTART and TDLY together by any number of ticks, across a
wrap or not, moves every later state by as much and changes nothing else. -/
def Obligations.OnlyTimeDifferencesMatter : Prop :=
  ∀ (is : List Inputs) (d : Timestamp) (r : Regs), (∀ i ∈ is, i.rst = false) →
    (r.shiftTime d).run is = (r.run is).shiftTime d

/-- R92, R105: what the block does next depends on no register that an earlier acquisition, phase or attempt left behind. Two
states that agree in STATE, ATT, DONE, the lines, TS and the registers their STATE still reads agree so after every cycle
with the same inputs. -/
def Obligations.StepReadsOnlyWhatItsStateNeeds : Prop :=
  ∀ (r q : Regs) (i : Inputs), r.SameAhead q → (r.step i).SameAhead (q.step i)

/-- R92: the block keeps no retry state across acquisitions. Two idle blocks that have seen the same lines and the same
time run the next acquisition alike, cycle by cycle, whatever earlier acquisitions left in their other registers, and
end it with the same result. -/
def Obligations.AcquisitionForgetsThePast : Prop :=
  ∀ (is : List Inputs) (i : Inputs) (r q : Regs), r.SameNow q → i.rst = false → i.start = true →
    (q.run (i :: is)).state = (r.run (i :: is)).state ∧ (q.run (i :: is)).att = (r.run (i :: is)).att ∧
    (q.run (i :: is)).done = (r.run (i :: is)).done ∧
    ((r.run (i :: is)).done = true →
      (q.run (i :: is)).pkt = (r.run (i :: is)).pkt ∧ (q.run (i :: is)).ok = (r.run (i :: is)).ok)

/-! ## The queries -/

/-- R165: READ_PACKET gives the host all 28 bits of PKT. That the read takes no cycle and lands in hostRead is the model's (log entry
6). -/
def Obligations.ReadPacketGivesPkt : Prop :=
  ∀ s : State, exec .readPacket s = .next { s with hostRead := some (.packet s.regs.pkt) }

/-- R75, R166: DIGITS_BCD gives the host the five digits, digit i being PKT[4i+3:4i], unchecked and unconverted.
That the read takes no cycle and lands in hostRead is the model's (log entry 6). -/
def Obligations.DigitsBcdGivesTheFiveDigits : Prop :=
  ∀ s : State, ∃ v : BitVec 20, exec .digitsBcd s = .next { s with hostRead := some (.digitsBcd v) } ∧
    ∀ k < 20, v.getLsbD k = s.regs.pkt.getLsbD k

/-- R167 to R170: the four predicates give the host bit 24, bit 26, the negation of bit 26 and bit 25 of PKT; `half` is
not gated by `inch`. That a read takes no cycle and lands in hostRead is the model's (log entry 6). -/
def Obligations.PredicatesGiveTheFlagBits : Prop :=
  ∀ s : State,
    exec .isNegative s = .next { s with hostRead := some (.negative (s.regs.pkt.getLsbD 24)) } ∧
    exec .isMetric s = .next { s with hostRead := some (.metric (s.regs.pkt.getLsbD 26)) } ∧
    exec .isInch s = .next { s with hostRead := some (.inch (!s.regs.pkt.getLsbD 26)) } ∧
    exec .isHalf s = .next { s with hostRead := some (.half (s.regs.pkt.getLsbD 25)) }

/-- R38, R89: READ_STATUS gives the host the word with `busy` in bit 0, DONE in bit 1, OK in bit 2 and ATT in bits 5:3.
That the four ports are read as one word, in no cycle, into hostRead is the model's (log entry 6). -/
def Obligations.ReadStatusPacksTheFlags : Prop :=
  ∀ s : State, ∃ v : StatusWord, exec .readStatus s = .next { s with hostRead := some (.status v) } ∧
    v.getLsbD 0 = decide (s.regs.state ≠ .idle) ∧ v.getLsbD 1 = s.regs.done ∧ v.getLsbD 2 = s.regs.ok ∧
    ∀ k < 3, v.getLsbD (3 + k) = s.regs.att.getLsbD k

/-- R55: a query changes no register and uses no cycle; it writes only what the host read (log entry 6). -/
def Obligations.QueriesHaveNoSideEffect : Prop :=
  ∀ (i : Instr) (s : State), i.isQuery = true →
    ∃ v : PortValue, exec i s = .next { s with hostRead := some v } ∧
      ∀ t u, exec i s = .next t → exec i t = .next u → u = t

/-- R173: field values written into a packet word come back from the field outputs. -/
def Obligations.FieldsSurviveTheRoundTrip : Prop :=
  ∀ (metric half neg : Bool) (d4 d3 d2 d1 d0 : BitVec 4) (r : Regs),
    r.pkt = packetOfFields metric half neg d4 d3 d2 d1 d0 →
    r.metric = metric ∧ r.inch = !metric ∧ r.half = half ∧ r.negative = neg ∧
    packetDigit r.pkt 0 = d0 ∧ packetDigit r.pkt 1 = d1 ∧ packetDigit r.pkt 2 = d2 ∧ packetDigit r.pkt 3 = d3 ∧
    packetDigit r.pkt 4 = d4 ∧ r.digitsBcd = d4 ++ d3 ++ d2 ++ d1 ++ d0

/-- R172: the reserved bits PKT[23:20] and PKT[27] reach no field output. -/
def Obligations.ReservedBitsReachNoFieldOutput : Prop :=
  ∀ r q : Regs, (∀ k < 28, k ≠ 20 → k ≠ 21 → k ≠ 22 → k ≠ 23 → k ≠ 27 → r.pkt.getLsbD k = q.pkt.getLsbD k) →
    r.digitsBcd = q.digitsBcd ∧ r.negative = q.negative ∧ r.metric = q.metric ∧ r.inch = q.inch ∧ r.half = q.half
end

