-- ==== Sys2Proof/Laws/Decode.lean ====
section
/-! SUPPORT. What decoding can answer, and the constraints of R7 on the parameters. -/

namespace Sys2Proof

/-- A word that names an operation is well formed. -/
theorem decode_ok_wellFormed {w : HostWord} {i : Instr} (h : decode w = .ok i) : w.wellFormed = true := by
  unfold decode at h
  split at h
  · cases h
  · split at h
    · cases h
    · simp_all [HostWord.wellFormed]

/-- A word of 8 bits that names an operation is one of HOSTCTL's four values (R70) or the status port's word. -/
theorem decodeByte_ok {b : Nat} {i : Instr} (h : decodeByte b = .ok i) :
    (b = 0x80 ∧ i = .readStatus) ∨ (b < 4 ∧ i = Instr.ofHostctl (BitVec.ofNat 2 b)) := by
  unfold decodeByte at h
  split at h
  · cases h
    exact .inl ⟨‹_›, rfl⟩
  · split at h
    · cases h
      exact .inr ⟨‹_›, rfl⟩
    · cases h

/-- The widths of the register types at the values of Table P1 (R6). -/
theorem widths_at_table_p1 :
    Timestamp = BitVec 32 ∧ Samples = BitVec 29 ∧ Packet = BitVec 28 ∧ BitCount = BitVec 5 ∧ AttemptCount = BitVec 3 ∧
      StatusWord = BitVec 6 :=
  ⟨rfl, rfl, rfl, rfl, rfl, rfl⟩

/-- SAMPLE_BITS is one more than PACKET_BITS, the attempt budget fits ATT, and every threshold fits a timestamp (R7). -/
theorem parameters_meet_constraints :
    Config.sampleBits = Config.packetBits + 1 ∧ 1 ≤ Config.maxAttempts ∧ Config.maxAttempts ≤ 2 ^ Config.attW - 1 ∧
      Config.syncGapUs < 2 ^ Config.tsW ∧ Config.windowUs < 2 ^ Config.tsW ∧ Config.recoveryUs < 2 ^ Config.tsW := by
  decide

end Sys2Proof
end

