-- ==== Sys2Proof/Laws/PerInstr.lean ====
section
/-! SUPPORT. Statements for all operations, made per constructor. WordForm: an operation is well formed, and the word the
encoder writes for it is a well-formed host word. -/

namespace Sys2Proof.Laws.WordForm

/-- The operation and its word are well formed. -/
def Statement (i : Instr) : Prop := i.wellFormed = true ∧ (encode i).wellFormed = true

theorem nop : Statement .nop := ⟨rfl, rfl⟩
theorem acquire : Statement .acquire := ⟨rfl, rfl⟩
theorem reset (start : Bool) : Statement (.reset start) := by cases start <;> exact ⟨rfl, rfl⟩
theorem readPacket : Statement .readPacket := ⟨rfl, rfl⟩
theorem digitsBcd : Statement .digitsBcd := ⟨rfl, rfl⟩
theorem isNegative : Statement .isNegative := ⟨rfl, rfl⟩
theorem isMetric : Statement .isMetric := ⟨rfl, rfl⟩
theorem isInch : Statement .isInch := ⟨rfl, rfl⟩
theorem isHalf : Statement .isHalf := ⟨rfl, rfl⟩
theorem readStatus : Statement .readStatus := ⟨rfl, rfl⟩

end Sys2Proof.Laws.WordForm
end

