-- ==== Sys2Proof/Laws/State.lean ====
section
/-! SUPPORT. What each update leaves in each field, so that no proof unfolds a record update. -/

namespace Sys2Proof.Machine

/-! Regs.everyCycle: the writes of every cycle (R116). -/

@[simp] theorem Regs.everyCycle_cs1 (r : Regs) (i : Inputs) : (r.everyCycle i).cs1 = i.calClk := rfl
@[simp] theorem Regs.everyCycle_cs2 (r : Regs) (i : Inputs) : (r.everyCycle i).cs2 = r.cs1 := rfl
@[simp] theorem Regs.everyCycle_cs3 (r : Regs) (i : Inputs) : (r.everyCycle i).cs3 = r.cs2 := rfl
@[simp] theorem Regs.everyCycle_ds1 (r : Regs) (i : Inputs) : (r.everyCycle i).ds1 = i.calData := rfl
@[simp] theorem Regs.everyCycle_ds2 (r : Regs) (i : Inputs) : (r.everyCycle i).ds2 = r.ds1 := rfl
@[simp] theorem Regs.everyCycle_ts (r : Regs) (i : Inputs) : (r.everyCycle i).ts = r.ts + (BitVec.ofBool i.usTick).setWidth Config.tsW := rfl
@[simp] theorem Regs.everyCycle_state (r : Regs) (i : Inputs) : (r.everyCycle i).state = r.state := rfl
@[simp] theorem Regs.everyCycle_t0 (r : Regs) (i : Inputs) : (r.everyCycle i).t0 = r.t0 := rfl
@[simp] theorem Regs.everyCycle_tstart (r : Regs) (i : Inputs) : (r.everyCycle i).tstart = r.tstart := rfl
@[simp] theorem Regs.everyCycle_tdly (r : Regs) (i : Inputs) : (r.everyCycle i).tdly = r.tdly := rfl
@[simp] theorem Regs.everyCycle_sr (r : Regs) (i : Inputs) : (r.everyCycle i).sr = r.sr := rfl
@[simp] theorem Regs.everyCycle_bitcnt (r : Regs) (i : Inputs) : (r.everyCycle i).bitcnt = r.bitcnt := rfl
@[simp] theorem Regs.everyCycle_att (r : Regs) (i : Inputs) : (r.everyCycle i).att = r.att := rfl
@[simp] theorem Regs.everyCycle_pkt (r : Regs) (i : Inputs) : (r.everyCycle i).pkt = r.pkt := rfl
@[simp] theorem Regs.everyCycle_ok (r : Regs) (i : Inputs) : (r.everyCycle i).ok = r.ok := rfl
@[simp] theorem Regs.everyCycle_done (r : Regs) (i : Inputs) : (r.everyCycle i).done = false := rfl

/-! Regs.unmoved: what a cycle leaves whose arm writes nothing. -/

@[simp] theorem Regs.unmoved_cs1 (r : Regs) (i : Inputs) : (r.unmoved i).cs1 = i.calClk := rfl
@[simp] theorem Regs.unmoved_cs2 (r : Regs) (i : Inputs) : (r.unmoved i).cs2 = r.cs1 := rfl
@[simp] theorem Regs.unmoved_cs3 (r : Regs) (i : Inputs) : (r.unmoved i).cs3 = r.cs2 := rfl
@[simp] theorem Regs.unmoved_ds1 (r : Regs) (i : Inputs) : (r.unmoved i).ds1 = i.calData := rfl
@[simp] theorem Regs.unmoved_ds2 (r : Regs) (i : Inputs) : (r.unmoved i).ds2 = r.ds1 := rfl
@[simp] theorem Regs.unmoved_ts (r : Regs) (i : Inputs) : (r.unmoved i).ts = r.ts + (if i.usTick then 1 else 0) := rfl
@[simp] theorem Regs.unmoved_state (r : Regs) (i : Inputs) : (r.unmoved i).state = r.state := rfl
@[simp] theorem Regs.unmoved_t0 (r : Regs) (i : Inputs) : (r.unmoved i).t0 = r.t0 := rfl
@[simp] theorem Regs.unmoved_tstart (r : Regs) (i : Inputs) : (r.unmoved i).tstart = r.tstart := rfl
@[simp] theorem Regs.unmoved_tdly (r : Regs) (i : Inputs) : (r.unmoved i).tdly = r.tdly := rfl
@[simp] theorem Regs.unmoved_sr (r : Regs) (i : Inputs) : (r.unmoved i).sr = r.sr := rfl
@[simp] theorem Regs.unmoved_bitcnt (r : Regs) (i : Inputs) : (r.unmoved i).bitcnt = r.bitcnt := rfl
@[simp] theorem Regs.unmoved_att (r : Regs) (i : Inputs) : (r.unmoved i).att = r.att := rfl
@[simp] theorem Regs.unmoved_pkt (r : Regs) (i : Inputs) : (r.unmoved i).pkt = r.pkt := rfl
@[simp] theorem Regs.unmoved_ok (r : Regs) (i : Inputs) : (r.unmoved i).ok = r.ok := rfl
@[simp] theorem Regs.unmoved_done (r : Regs) (i : Inputs) : (r.unmoved i).done = false := rfl

/-! Regs.beginAttempt: BeginAttempt (R125). -/

@[simp] theorem Regs.beginAttempt_cs1 (r w : Regs) : (r.beginAttempt w).cs1 = w.cs1 := rfl
@[simp] theorem Regs.beginAttempt_cs2 (r w : Regs) : (r.beginAttempt w).cs2 = w.cs2 := rfl
@[simp] theorem Regs.beginAttempt_cs3 (r w : Regs) : (r.beginAttempt w).cs3 = w.cs3 := rfl
@[simp] theorem Regs.beginAttempt_ds1 (r w : Regs) : (r.beginAttempt w).ds1 = w.ds1 := rfl
@[simp] theorem Regs.beginAttempt_ds2 (r w : Regs) : (r.beginAttempt w).ds2 = w.ds2 := rfl
@[simp] theorem Regs.beginAttempt_ts (r w : Regs) : (r.beginAttempt w).ts = w.ts := rfl
@[simp] theorem Regs.beginAttempt_state (r w : Regs) : (r.beginAttempt w).state = .sample := rfl
@[simp] theorem Regs.beginAttempt_t0 (r w : Regs) : (r.beginAttempt w).t0 = w.t0 := rfl
@[simp] theorem Regs.beginAttempt_tstart (r w : Regs) : (r.beginAttempt w).tstart = r.ts := rfl
@[simp] theorem Regs.beginAttempt_tdly (r w : Regs) : (r.beginAttempt w).tdly = w.tdly := rfl
@[simp] theorem Regs.beginAttempt_sr (r w : Regs) : (r.beginAttempt w).sr = 0 := rfl
@[simp] theorem Regs.beginAttempt_bitcnt (r w : Regs) : (r.beginAttempt w).bitcnt = 0 := rfl
@[simp] theorem Regs.beginAttempt_att (r w : Regs) : (r.beginAttempt w).att = r.att + 1 := rfl
@[simp] theorem Regs.beginAttempt_pkt (r w : Regs) : (r.beginAttempt w).pkt = w.pkt := rfl
@[simp] theorem Regs.beginAttempt_ok (r w : Regs) : (r.beginAttempt w).ok = w.ok := rfl
@[simp] theorem Regs.beginAttempt_done (r w : Regs) : (r.beginAttempt w).done = w.done := rfl

/-! Regs.takeSample: the shift (R142). -/

@[simp] theorem Regs.takeSample_cs1 (r w : Regs) : (r.takeSample w).cs1 = w.cs1 := rfl
@[simp] theorem Regs.takeSample_cs2 (r w : Regs) : (r.takeSample w).cs2 = w.cs2 := rfl
@[simp] theorem Regs.takeSample_cs3 (r w : Regs) : (r.takeSample w).cs3 = w.cs3 := rfl
@[simp] theorem Regs.takeSample_ds1 (r w : Regs) : (r.takeSample w).ds1 = w.ds1 := rfl
@[simp] theorem Regs.takeSample_ds2 (r w : Regs) : (r.takeSample w).ds2 = w.ds2 := rfl
@[simp] theorem Regs.takeSample_ts (r w : Regs) : (r.takeSample w).ts = w.ts := rfl
@[simp] theorem Regs.takeSample_state (r w : Regs) : (r.takeSample w).state = w.state := rfl
@[simp] theorem Regs.takeSample_t0 (r w : Regs) : (r.takeSample w).t0 = w.t0 := rfl
@[simp] theorem Regs.takeSample_tstart (r w : Regs) : (r.takeSample w).tstart = w.tstart := rfl
@[simp] theorem Regs.takeSample_tdly (r w : Regs) : (r.takeSample w).tdly = w.tdly := rfl
@[simp] theorem Regs.takeSample_sr (r w : Regs) : (r.takeSample w).sr = r.srNext := rfl
@[simp] theorem Regs.takeSample_bitcnt (r w : Regs) : (r.takeSample w).bitcnt = w.bitcnt := rfl
@[simp] theorem Regs.takeSample_att (r w : Regs) : (r.takeSample w).att = w.att := rfl
@[simp] theorem Regs.takeSample_pkt (r w : Regs) : (r.takeSample w).pkt = w.pkt := rfl
@[simp] theorem Regs.takeSample_ok (r w : Regs) : (r.takeSample w).ok = w.ok := rfl
@[simp] theorem Regs.takeSample_done (r w : Regs) : (r.takeSample w).done = w.done := rfl

/-! Regs.countSample: the bit counter (R143). -/

@[simp] theorem Regs.countSample_cs1 (r w : Regs) : (r.countSample w).cs1 = w.cs1 := rfl
@[simp] theorem Regs.countSample_cs2 (r w : Regs) : (r.countSample w).cs2 = w.cs2 := rfl
@[simp] theorem Regs.countSample_cs3 (r w : Regs) : (r.countSample w).cs3 = w.cs3 := rfl
@[simp] theorem Regs.countSample_ds1 (r w : Regs) : (r.countSample w).ds1 = w.ds1 := rfl
@[simp] theorem Regs.countSample_ds2 (r w : Regs) : (r.countSample w).ds2 = w.ds2 := rfl
@[simp] theorem Regs.countSample_ts (r w : Regs) : (r.countSample w).ts = w.ts := rfl
@[simp] theorem Regs.countSample_state (r w : Regs) : (r.countSample w).state = w.state := rfl
@[simp] theorem Regs.countSample_t0 (r w : Regs) : (r.countSample w).t0 = w.t0 := rfl
@[simp] theorem Regs.countSample_tstart (r w : Regs) : (r.countSample w).tstart = w.tstart := rfl
@[simp] theorem Regs.countSample_tdly (r w : Regs) : (r.countSample w).tdly = w.tdly := rfl
@[simp] theorem Regs.countSample_sr (r w : Regs) : (r.countSample w).sr = w.sr := rfl
@[simp] theorem Regs.countSample_bitcnt (r w : Regs) : (r.countSample w).bitcnt = r.bitcnt + 1 := rfl
@[simp] theorem Regs.countSample_att (r w : Regs) : (r.countSample w).att = w.att := rfl
@[simp] theorem Regs.countSample_pkt (r w : Regs) : (r.countSample w).pkt = w.pkt := rfl
@[simp] theorem Regs.countSample_ok (r w : Regs) : (r.countSample w).ok = w.ok := rfl
@[simp] theorem Regs.countSample_done (r w : Regs) : (r.countSample w).done = w.done := rfl

/-! Regs.commit: VALID (R151). -/

@[simp] theorem Regs.commit_cs1 (r w : Regs) : (r.commit w).cs1 = w.cs1 := rfl
@[simp] theorem Regs.commit_cs2 (r w : Regs) : (r.commit w).cs2 = w.cs2 := rfl
@[simp] theorem Regs.commit_cs3 (r w : Regs) : (r.commit w).cs3 = w.cs3 := rfl
@[simp] theorem Regs.commit_ds1 (r w : Regs) : (r.commit w).ds1 = w.ds1 := rfl
@[simp] theorem Regs.commit_ds2 (r w : Regs) : (r.commit w).ds2 = w.ds2 := rfl
@[simp] theorem Regs.commit_ts (r w : Regs) : (r.commit w).ts = w.ts := rfl
@[simp] theorem Regs.commit_state (r w : Regs) : (r.commit w).state = .idle := rfl
@[simp] theorem Regs.commit_t0 (r w : Regs) : (r.commit w).t0 = w.t0 := rfl
@[simp] theorem Regs.commit_tstart (r w : Regs) : (r.commit w).tstart = w.tstart := rfl
@[simp] theorem Regs.commit_tdly (r w : Regs) : (r.commit w).tdly = w.tdly := rfl
@[simp] theorem Regs.commit_sr (r w : Regs) : (r.commit w).sr = w.sr := rfl
@[simp] theorem Regs.commit_bitcnt (r w : Regs) : (r.commit w).bitcnt = w.bitcnt := rfl
@[simp] theorem Regs.commit_att (r w : Regs) : (r.commit w).att = w.att := rfl
@[simp] theorem Regs.commit_pkt (r w : Regs) : (r.commit w).pkt = r.cand := rfl
@[simp] theorem Regs.commit_ok (r w : Regs) : (r.commit w).ok = true := rfl
@[simp] theorem Regs.commit_done (r w : Regs) : (r.commit w).done = true := rfl

/-! Regs.startRecovery: RETRY (R152). -/

@[simp] theorem Regs.startRecovery_cs1 (r w : Regs) : (r.startRecovery w).cs1 = w.cs1 := rfl
@[simp] theorem Regs.startRecovery_cs2 (r w : Regs) : (r.startRecovery w).cs2 = w.cs2 := rfl
@[simp] theorem Regs.startRecovery_cs3 (r w : Regs) : (r.startRecovery w).cs3 = w.cs3 := rfl
@[simp] theorem Regs.startRecovery_ds1 (r w : Regs) : (r.startRecovery w).ds1 = w.ds1 := rfl
@[simp] theorem Regs.startRecovery_ds2 (r w : Regs) : (r.startRecovery w).ds2 = w.ds2 := rfl
@[simp] theorem Regs.startRecovery_ts (r w : Regs) : (r.startRecovery w).ts = w.ts := rfl
@[simp] theorem Regs.startRecovery_state (r w : Regs) : (r.startRecovery w).state = .recoverDelay := rfl
@[simp] theorem Regs.startRecovery_t0 (r w : Regs) : (r.startRecovery w).t0 = w.t0 := rfl
@[simp] theorem Regs.startRecovery_tstart (r w : Regs) : (r.startRecovery w).tstart = w.tstart := rfl
@[simp] theorem Regs.startRecovery_tdly (r w : Regs) : (r.startRecovery w).tdly = r.ts := rfl
@[simp] theorem Regs.startRecovery_sr (r w : Regs) : (r.startRecovery w).sr = w.sr := rfl
@[simp] theorem Regs.startRecovery_bitcnt (r w : Regs) : (r.startRecovery w).bitcnt = w.bitcnt := rfl
@[simp] theorem Regs.startRecovery_att (r w : Regs) : (r.startRecovery w).att = w.att := rfl
@[simp] theorem Regs.startRecovery_pkt (r w : Regs) : (r.startRecovery w).pkt = w.pkt := rfl
@[simp] theorem Regs.startRecovery_ok (r w : Regs) : (r.startRecovery w).ok = w.ok := rfl
@[simp] theorem Regs.startRecovery_done (r w : Regs) : (r.startRecovery w).done = w.done := rfl

/-! Regs.fail: FAIL (R153). -/

@[simp] theorem Regs.fail_cs1 (w : Regs) : (Regs.fail w).cs1 = w.cs1 := rfl
@[simp] theorem Regs.fail_cs2 (w : Regs) : (Regs.fail w).cs2 = w.cs2 := rfl
@[simp] theorem Regs.fail_cs3 (w : Regs) : (Regs.fail w).cs3 = w.cs3 := rfl
@[simp] theorem Regs.fail_ds1 (w : Regs) : (Regs.fail w).ds1 = w.ds1 := rfl
@[simp] theorem Regs.fail_ds2 (w : Regs) : (Regs.fail w).ds2 = w.ds2 := rfl
@[simp] theorem Regs.fail_ts (w : Regs) : (Regs.fail w).ts = w.ts := rfl
@[simp] theorem Regs.fail_state (w : Regs) : (Regs.fail w).state = .idle := rfl
@[simp] theorem Regs.fail_t0 (w : Regs) : (Regs.fail w).t0 = w.t0 := rfl
@[simp] theorem Regs.fail_tstart (w : Regs) : (Regs.fail w).tstart = w.tstart := rfl
@[simp] theorem Regs.fail_tdly (w : Regs) : (Regs.fail w).tdly = w.tdly := rfl
@[simp] theorem Regs.fail_sr (w : Regs) : (Regs.fail w).sr = w.sr := rfl
@[simp] theorem Regs.fail_bitcnt (w : Regs) : (Regs.fail w).bitcnt = w.bitcnt := rfl
@[simp] theorem Regs.fail_att (w : Regs) : (Regs.fail w).att = w.att := rfl
@[simp] theorem Regs.fail_pkt (w : Regs) : (Regs.fail w).pkt = 0 := rfl
@[simp] theorem Regs.fail_ok (w : Regs) : (Regs.fail w).ok = false := rfl
@[simp] theorem Regs.fail_done (w : Regs) : (Regs.fail w).done = true := rfl

/-! State.cycle: one cycle of `clk` (R115). -/

@[simp] theorem State.cycle_regs (s : State) (rst start : Bool) :
    (s.cycle rst start).regs = s.regs.step (s.cycleInputs rst start) := rfl
@[simp] theorem State.cycle_hostQueue (s : State) (rst start : Bool) : (s.cycle rst start).hostQueue = s.hostQueue := rfl
@[simp] theorem State.cycle_pinQueue (s : State) (rst start : Bool) : (s.cycle rst start).pinQueue = s.pinQueue.tail := rfl
@[simp] theorem State.cycle_pastPins (s : State) (rst start : Bool) : (s.cycle rst start).pastPins = s.pinsSeen := rfl
@[simp] theorem State.cycle_hostRead (s : State) (rst start : Bool) : (s.cycle rst start).hostRead = s.hostRead := rfl
@[simp] theorem State.cycle_draws (s : State) (rst start : Bool) : (s.cycle rst start).draws = s.draws + 1 := rfl

/-! State.readPort: a read of an output port (R55). -/

@[simp] theorem State.readPort_regs (s : State) (v : PortValue) : (s.readPort v).regs = s.regs := rfl
@[simp] theorem State.readPort_hostQueue (s : State) (v : PortValue) : (s.readPort v).hostQueue = s.hostQueue := rfl
@[simp] theorem State.readPort_pinQueue (s : State) (v : PortValue) : (s.readPort v).pinQueue = s.pinQueue := rfl
@[simp] theorem State.readPort_pastPins (s : State) (v : PortValue) : (s.readPort v).pastPins = s.pastPins := rfl
@[simp] theorem State.readPort_hostRead (s : State) (v : PortValue) : (s.readPort v).hostRead = some v := rfl
@[simp] theorem State.readPort_draws (s : State) (v : PortValue) : (s.readPort v).draws = s.draws := rfl

/-! State.popRequest and State.withFetchWord: the host's list of requests. -/

@[simp] theorem State.popRequest_regs (s : State) : s.popRequest.regs = s.regs := rfl
@[simp] theorem State.popRequest_hostQueue (s : State) : s.popRequest.hostQueue = s.hostQueue.tail := rfl
@[simp] theorem State.popRequest_pinQueue (s : State) : s.popRequest.pinQueue = s.pinQueue := rfl
@[simp] theorem State.popRequest_pastPins (s : State) : s.popRequest.pastPins = s.pastPins := rfl
@[simp] theorem State.popRequest_hostRead (s : State) : s.popRequest.hostRead = s.hostRead := rfl
@[simp] theorem State.popRequest_draws (s : State) : s.popRequest.draws = s.draws := rfl
@[simp] theorem State.withFetchWord_regs (s : State) (nbits w : Nat) :
    (s.withFetchWord nbits w).regs = s.regs := rfl
@[simp] theorem State.withFetchWord_hostQueue (s : State) (nbits w : Nat) :
    (s.withFetchWord nbits w).hostQueue = ⟨nbits, w⟩ :: s.hostQueue := rfl
@[simp] theorem State.withFetchWord_pinQueue (s : State) (nbits w : Nat) :
    (s.withFetchWord nbits w).pinQueue = s.pinQueue := rfl
@[simp] theorem State.withFetchWord_pastPins (s : State) (nbits w : Nat) :
    (s.withFetchWord nbits w).pastPins = s.pastPins := rfl
@[simp] theorem State.withFetchWord_hostRead (s : State) (nbits w : Nat) :
    (s.withFetchWord nbits w).hostRead = s.hostRead := rfl
@[simp] theorem State.withFetchWord_draws (s : State) (nbits w : Nat) :
    (s.withFetchWord nbits w).draws = s.draws := rfl

end Sys2Proof.Machine
end

