-- ==== Sys2Proof/Laws/Step.lean ====
section
/-! SUPPORT. One lemma for each shared operation that says everything it can do: the operands, the shift, the verdict, the
state arms, the step of the block, and the outcomes of `exec` and `step`. -/

namespace Sys2Proof.Machine

/-! Operands and tests. -/

theorem Regs.rise_iff (r : Regs) : r.rise = true ↔ r.cs2 = true ∧ r.cs3 = false := by
  simp [Regs.rise]

theorem Regs.fall_iff (r : Regs) : r.fall = true ↔ r.cs2 = false ∧ r.cs3 = true := by
  simp [Regs.fall]

theorem Regs.not_rise_iff (r : Regs) : r.rise = false ↔ ¬(r.cs2 = true ∧ r.cs3 = false) := by
  rw [← Regs.rise_iff, Bool.not_eq_true]

theorem Regs.not_fall_iff (r : Regs) : r.fall = false ↔ ¬(r.cs2 = false ∧ r.cs3 = true) := by
  rw [← Regs.fall_iff, Bool.not_eq_true]

theorem Regs.gapOk_iff (r : Regs) : r.gapOk = true ↔ 800 ≤ (r.ts - r.t0).toNat :=
  decide_eq_true_iff

theorem Regs.pauseOver_iff (r : Regs) : r.pauseOver = true ↔ 10000 ≤ (r.ts - r.tdly).toNat :=
  decide_eq_true_iff

theorem Regs.lastSample_iff (r : Regs) : r.lastSample = true ↔ r.bitcnt = 28 := by
  simp only [Regs.lastSample, beq_iff_eq, ← BitVec.toNat_inj]
  rfl

theorem Regs.budgetSpent_iff (r : Regs) : r.budgetSpent = true ↔ r.att = 4 := by
  simp only [Regs.budgetSpent, beq_iff_eq, ← BitVec.toNat_inj]
  rfl

theorem Regs.not_gapOk_iff (r : Regs) : r.gapOk = false ↔ (r.ts - r.t0).toNat < 800 := by
  rw [← Bool.not_eq_true, Regs.gapOk_iff, Nat.not_le]

theorem Regs.not_pauseOver_iff (r : Regs) : r.pauseOver = false ↔ (r.ts - r.tdly).toNat < 10000 := by
  rw [← Bool.not_eq_true, Regs.pauseOver_iff, Nat.not_le]

theorem AttemptCount.succ_toNat (a : AttemptCount) : (a + 1).toNat = (a.toNat + 1) % 8 :=
  BitVec.toNat_add a 1

theorem BitCount.succ_toNat (b : BitCount) : (b + 1).toNat = (b.toNat + 1) % 32 :=
  BitVec.toNat_add b 1

/-! The moduli of the parameterised widths as numerals, for linear arithmetic. -/

@[simp] theorem Config.two_pow_tsW : 2 ^ Config.tsW = 4294967296 := rfl
@[simp] theorem Config.two_pow_sampleBits : 2 ^ Config.sampleBits = 536870912 := rfl
@[simp] theorem Config.two_pow_packetBits : 2 ^ Config.packetBits = 268435456 := rfl
@[simp] theorem Config.two_pow_bitcntW : 2 ^ Config.bitcntW = 32 := rfl
@[simp] theorem Config.two_pow_attW : 2 ^ Config.attW = 8 := rfl

/-- A packet word of chosen fields, bit field by bit field (R173, Table E1). -/
theorem packetOfFields_eq (metric half neg : Bool) (d4 d3 d2 d1 d0 : BitVec 4) :
    packetOfFields metric half neg d4 d3 d2 d1 d0 =
      BitVec.ofBool false ++ BitVec.ofBool metric ++ BitVec.ofBool half ++ BitVec.ofBool neg ++ (0 : BitVec 4)
        ++ d4 ++ d3 ++ d2 ++ d1 ++ d0 :=
  BitVec.setWidth_eq _

/-! Timestamps as numbers below 2^32. -/

theorem Timestamp.toNat_lt (t : Timestamp) : t.toNat < 2 ^ 32 := t.isLt

theorem Timestamp.add_toNat (a b : Timestamp) : (a + b).toNat = (a.toNat + b.toNat) % 2 ^ 32 :=
  BitVec.toNat_add a b

theorem Timestamp.sub_toNat (a b : Timestamp) : (a - b).toNat = (2 ^ 32 - b.toNat + a.toNat) % 2 ^ 32 :=
  BitVec.toNat_sub a b

/-- One tick more since a timestamp, as long as the count does not wrap (R12). -/
theorem Timestamp.succ_sub_toNat (a b : Timestamp) (h : (a - b).toNat < 2 ^ 32 - 1) :
    (a + 1 - b).toNat = (a - b).toNat + 1 := by
  have ha := Timestamp.toNat_lt a
  have hb := Timestamp.toNat_lt b
  have h1 : (1 : Timestamp).toNat = 1 := rfl
  rw [Timestamp.sub_toNat] at h
  rw [Timestamp.sub_toNat, Timestamp.sub_toNat, Timestamp.add_toNat, h1]
  omega

/-! The sampler and the validator. -/

/-- The bits after the shift: the new sample on top, every older bit one place lower (R142). -/
theorem shiftIn_getLsbD (b : Bool) (sr : Samples) (k : Nat) :
    (shiftIn b sr).getLsbD k = if k = 28 then b else sr.getLsbD (k + 1) := by
  unfold shiftIn
  rw [BitVec.getLsbD_cons]
  split
  · rfl
  · rw [BitVec.getLsbD_extractLsb', Nat.add_comm]
    by_cases h : k < 28
    · simp [h]
    · simp [h]
      exact BitVec.getLsbD_of_ge _ _ (by show 29 ≤ k + 1; omega)

/-- SR_next as a number: the new sample at bit 28 over the old bits halved (R142). -/
theorem shiftIn_toNat (b : Bool) (sr : Samples) : (shiftIn b sr).toNat = b.toNat * 2 ^ 28 + sr.toNat / 2 := by
  have h : sr.toNat < 2 ^ 29 := sr.isLt
  simp only [shiftIn, BitVec.toNat_cons', BitVec.extractLsb'_toNat, Nat.shiftRight_eq_div_pow, Nat.shiftLeft_eq]
  rw [Nat.mod_eq_of_lt (show sr.toNat / 2 ^ 1 < 2 ^ 28 by omega), Nat.pow_one]

/-- The candidate packet is bits 28 to 1 of SR as it stood before the shift; the sample taken in the completion cycle is
not in it (R146). -/
theorem Regs.cand_getLsbD (r : Regs) (k : Nat) (h : k < 28) : r.cand.getLsbD k = r.sr.getLsbD (k + 1) := by
  have h28 : k ≠ 28 := by omega
  simp [Regs.cand, Regs.srNext, shiftIn_getLsbD, h, h28]

/-- The three verdicts and when each is given (R150). -/
theorem Regs.verdict_cases (r : Regs) :
    (r.verdict = .valid ∧ (r.ts - r.tstart).toNat < 900) ∨
    (r.verdict = .fail ∧ 900 ≤ (r.ts - r.tstart).toNat ∧ r.att = 4) ∨
    (r.verdict = .retry ∧ 900 ≤ (r.ts - r.tstart).toNat ∧ r.att ≠ 4) := by
  simp only [Regs.verdict, Regs.elapsed, Regs.since, Regs.budgetSpent_iff]
  split
  · exact .inl ⟨rfl, ‹_›⟩
  · split
    · exact .inr (.inl ⟨rfl, Nat.le_of_not_lt ‹_›, ‹_›⟩)
    · exact .inr (.inr ⟨rfl, Nat.le_of_not_lt ‹_›, ‹_›⟩)

/-! The writes of every cycle and of the arms. -/

theorem Regs.everyCycle_eq_unmoved (r : Regs) (i : Inputs) : r.everyCycle i = r.unmoved i := by
  cases hi : i.usTick <;> simp [Regs.everyCycle, Regs.unmoved, Regs.timebase, Regs.dataSync, Regs.clockSync, hi]

/-- Everything one cycle of the block can do: the reset, or exactly one of the transitions of R127 with its writes. -/
theorem Regs.step_cases (r : Regs) (i : Inputs) :
    (i.rst = true ∧ r.step i = Regs.reset) ∨
    (i.rst = false ∧ (
      (r.state = .idle ∧ i.start = false ∧ r.step i = r.unmoved i) ∨
      (r.state = .idle ∧ i.start = true ∧ r.step i = { r.unmoved i with att := 0, state := .syncHi }) ∨
      (r.state = .syncHi ∧ r.rise = false ∧ r.step i = r.unmoved i) ∨
      (r.state = .syncHi ∧ r.rise = true ∧ r.step i = { r.unmoved i with t0 := r.ts, state := .syncLo }) ∨
      (r.state = .syncLo ∧ r.fall = false ∧ r.step i = r.unmoved i) ∨
      (r.state = .syncLo ∧ r.fall = true ∧ r.gapOk = false ∧ r.step i = { r.unmoved i with state := .syncHi }) ∨
      (r.state = .syncLo ∧ r.fall = true ∧ r.gapOk = true ∧ r.step i = r.beginAttempt (r.unmoved i)) ∨
      (r.state = .sample ∧ r.rise = false ∧ r.step i = r.unmoved i) ∨
      (r.state = .sample ∧ r.rise = true ∧ r.lastSample = false ∧
        r.step i = r.countSample (r.takeSample (r.unmoved i))) ∨
      (r.state = .sample ∧ r.rise = true ∧ r.lastSample = true ∧ r.verdict = .valid ∧
        r.step i = r.commit (r.takeSample (r.unmoved i))) ∨
      (r.state = .sample ∧ r.rise = true ∧ r.lastSample = true ∧ r.verdict = .retry ∧
        r.step i = r.startRecovery (r.takeSample (r.unmoved i))) ∨
      (r.state = .sample ∧ r.rise = true ∧ r.lastSample = true ∧ r.verdict = .fail ∧
        r.step i = Regs.fail (r.takeSample (r.unmoved i))) ∨
      (r.state = .recoverDelay ∧ r.pauseOver = false ∧ r.step i = r.unmoved i) ∨
      (r.state = .recoverDelay ∧ r.pauseOver = true ∧ r.fall = false ∧
        r.step i = { r.unmoved i with state := .recoverWaitLow }) ∨
      (r.state = .recoverDelay ∧ r.pauseOver = true ∧ r.fall = true ∧ r.step i = r.beginAttempt (r.unmoved i)) ∨
      (r.state = .recoverWaitLow ∧ r.fall = false ∧ r.step i = r.unmoved i) ∨
      (r.state = .recoverWaitLow ∧ r.fall = true ∧ r.step i = r.beginAttempt (r.unmoved i)) ∨
      ((r.state = .unused6 ∨ r.state = .unused7) ∧ r.step i = { r.unmoved i with state := .idle }))) := by
  simp only [Regs.step, Regs.everyCycle_eq_unmoved]
  cases hr : i.rst
  · refine .inr ⟨rfl, ?_⟩
    cases hs : r.state
    case idle => cases hst : i.start <;> simp [Regs.arm, hs, Regs.idleArm, hst]
    case syncHi => cases h : r.rise <;> simp [Regs.arm, hs, Regs.syncHiArm, h]
    case syncLo => cases h : r.fall <;> cases hg : r.gapOk <;> simp [Regs.arm, hs, Regs.syncLoArm, h, hg]
    case sample =>
      cases h : r.rise <;> cases hl : r.lastSample <;> cases hv : r.verdict <;>
        simp [Regs.arm, hs, Regs.sampleArm, Regs.judge, h, hl, hv]
    case recoverDelay => cases h : r.fall <;> cases hp : r.pauseOver <;> simp [Regs.arm, hs, Regs.recoverDelayArm, h, hp]
    case recoverWaitLow => cases h : r.fall <;> simp [Regs.arm, hs, Regs.recoverWaitLowArm, h]
    case unused6 => simp [Regs.arm, hs, Regs.unusedArm]
    case unused7 => simp [Regs.arm, hs, Regs.unusedArm]
  · simp

@[simp] theorem Regs.run_nil (r : Regs) : r.run [] = r := rfl

@[simp] theorem Regs.run_cons (r : Regs) (i : Inputs) (is : List Inputs) : r.run (i :: is) = (r.step i).run is := rfl

theorem Regs.run_append (r : Regs) (is js : List Inputs) : r.run (is ++ js) = (r.run is).run js :=
  List.foldl_append

/-! The levels captured and the inputs of a cycle. -/

/-- Data holds around a cycle if its pin has one settled level in the three cycles (R206). -/
theorem levelHolds_settled_iff (p q r : Pin) :
    levelHolds p.settled q.settled r.settled = true ↔ p = q ∧ q = r ∧ q ≠ .changing := by
  cases p <;> cases q <;> cases r <;> simp [levelHolds, Pin.settled]

/-- CS1 captures a draw, or in a lasting phase the settled level of the line (R205). -/
theorem State.capturedClk_cases (s : State) :
    (s.clkLasts = false ∧ s.capturedClk = Config.freeClkLevel s.draws) ∨
    (s.clkLasts = true ∧ ∃ v, clkLine s.pinQueue 0 = some v ∧ s.capturedClk = v) := by
  cases h : s.clkLasts
  · exact .inl ⟨rfl, by simp [State.capturedClk, h]⟩
  · refine .inr ⟨rfl, ?_⟩
    have h1 := h
    simp only [State.clkLasts, phaseLasts, Bool.and_eq_true, Option.isSome_iff_exists] at h1
    obtain ⟨⟨v, hv⟩, _⟩ := h1
    exact ⟨v, hv, by simp [State.capturedClk, h, hv]⟩

/-- DS1 captures a draw where data does not hold around the rise caught, and otherwise the line (R206). -/
theorem State.capturedData_cases (s : State) :
    (s.catchesRise = true ∧ s.dataHolds = false ∧ s.capturedData = Config.freeDataLevel s.draws) ∨
    ((s.catchesRise = false ∨ s.dataHolds = true) ∧
      s.capturedData = (dataLine s.pinQueue 0).getD (Config.freeDataLevel s.draws)) := by
  cases h : s.catchesRise <;> cases h' : s.dataHolds <;> simp [State.capturedData, h, h']


@[simp] theorem State.cycleInputs_rst (s : State) (rst start : Bool) : (s.cycleInputs rst start).rst = rst := rfl

@[simp] theorem State.cycleInputs_start (s : State) (rst start : Bool) : (s.cycleInputs rst start).start = start := rfl

/-! Outcomes. -/

/-- Everything an operation can do: a control operation is one cycle, a query is one read of a port. -/
theorem exec_cases (i : Instr) (s : State) :
    (i.isQuery = false ∧ ∃ rst start, exec i s = .next (s.cycle rst start)) ∨
    (i.isQuery = true ∧ ∃ v, exec i s = .next (s.readPort v)) := by
  cases i with
  | nop => exact .inl ⟨rfl, false, false, rfl⟩
  | acquire => exact .inl ⟨rfl, false, true, rfl⟩
  | reset start => exact .inl ⟨rfl, true, start, rfl⟩
  | readPacket => exact .inr ⟨rfl, _, rfl⟩
  | digitsBcd => exact .inr ⟨rfl, _, rfl⟩
  | isNegative => exact .inr ⟨rfl, _, rfl⟩
  | isMetric => exact .inr ⟨rfl, _, rfl⟩
  | isInch => exact .inr ⟨rfl, _, rfl⟩
  | isHalf => exact .inr ⟨rfl, _, rfl⟩
  | readStatus => exact .inr ⟨rfl, _, rfl⟩

/-- Where a step answers a next state, it is that of one operation run on the state without its request. -/
theorem step_next {s t : State} (h : step s = .next t) :
    ∃ i, s.nextOperation = .ok i ∧ exec i s.popRequest = .next t := by
  unfold step at h
  split at h
  · cases h
  · exact ⟨_, ‹_›, h⟩

end Sys2Proof.Machine
end

