-- ==== Sys2Proof/Tests/Slice0.lean ====
section
/-! SUPPORT. Tests. Expected results are the rows of spec/95_test_vectors.md or the rule a test names, never the model's own
answer. After them, a witness for the hypotheses of each statement that has some, at the bounds of its clauses. -/

namespace Sys2Proof.Machine

/-! ## Well-formed words, and decoding -/

theorem test_illformed_size : (HostWord.mk 16 0).sizeOk = false ∧ (HostWord.mk 16 0).wellFormed = false ∧
    decode ⟨16, 0⟩ = .error (.badSize 16) := by decide

theorem test_illformed_tooWide : (HostWord.mk 8 256).bitsFit = false ∧ (HostWord.mk 8 256).wellFormed = false ∧
    decode ⟨8, 256⟩ = .error (.tooWide 256) := by decide

theorem test_decode_rejects : decode ⟨8, 0b100⟩ = .error (.notHostctl 4) ∧ decode ⟨24, 1⟩ = .error (.noSuchPort 1) ∧
    decode ⟨32, 0x3000000⟩ = .error (.noSuchPort 0x3000000) := by decide

/-- R70: HOSTCTL, bit 1 `rst` and bit 0 `start`. -/
theorem test_decode_hostctl : decodeTableWord 8 0b00 = some .nop ∧ decodeTableWord 8 0b01 = some .acquire ∧
    decodeTableWord 8 0b10 = some (.reset false) ∧ decodeTableWord 8 0b11 = some (.reset true) := by decide

/-- The table's match of each predicate (R167, R168, R170), and the words of the value reads (log entry 1). -/
theorem test_decode_ports : decodeTableWord 32 0x1000000 = some .isNegative ∧
    decodeTableWord 32 0x4000000 = some .isMetric ∧ decodeTableWord 32 0x2000000 = some .isHalf ∧
    decodeTableWord 32 0 = some .readPacket ∧ decodeTableWord 24 0 = some .digitsBcd ∧
    decodeTableWord 32 0x80000000 = some .isInch ∧ decodeTableWord 8 0x80 = some .readStatus := by decide

/-- Table E2 (R72). -/
theorem test_fsm_codes : fsmCode .idle = 0 ∧ fsmCode .syncHi = 1 ∧ fsmCode .syncLo = 2 ∧ fsmCode .sample = 3 ∧
    fsmCode .recoverDelay = 4 ∧ fsmCode .recoverWaitLow = 5 ∧ fsmCode .unused6 = 6 ∧ fsmCode .unused7 = 7 := by decide

/-! ## One step of each operation -/

/-- A state with the given registers, both lines high for long and a tick in the next cycles, and one request. -/
def withRegs (r : Regs) (w : HostWord) : State where
  regs := r
  hostQueue := [w]
  pinQueue := [⟨.high, .high, true⟩, ⟨.high, .high, true⟩]
  pastPins := [⟨.high, .high, true⟩, ⟨.high, .high, true⟩]
  hostRead := none
  draws := 0

/-- What holds of the state a step answers. -/
def stepGives (s : State) (p : State → Bool) : Bool :=
  match step s with
  | .next t => p t
  | .fault _ => false
  | .refused _ => false

/-- A cycle with a detected rise. -/
def rising (r : Regs) : Regs := { r with cs1 := true, cs2 := true, cs3 := false }

/-- A cycle with a detected fall. -/
def falling (r : Regs) : Regs := { r with cs1 := false, cs2 := false, cs3 := true }

/-- L2.2 rows 5 and 6: the gap of 799 is rejected and the gap of 800 begins an attempt. -/
theorem test_nop_gap :
    stepGives (withRegs (falling { Regs.reset with state := .syncLo, ts := 811, t0 := 12 }) ⟨8, 0⟩)
      (fun t => t.regs.state == .syncHi && t.regs.att == 0) = true ∧
    stepGives (withRegs (falling { Regs.reset with state := .syncLo, ts := 812, t0 := 12 }) ⟨8, 0⟩)
      (fun t => t.regs.state == .sample && t.regs.tstart == 812 && t.regs.att == 1) = true := by decide

/-- L2.4 rows 2 and 4: 899 ticks on the first attempt is VALID, and 950 on the third is RETRY with PKT kept. -/
theorem test_nop_verdict :
    stepGives (withRegs (rising { Regs.reset with state := .sample, ts := 1711, tstart := 812, bitcnt := 28, att := 1 }) ⟨8, 0⟩)
      (fun t => t.regs.state == .idle && t.regs.ok && t.regs.done) = true ∧
    stepGives (withRegs (rising { Regs.reset with
        state := .sample, ts := 1762, tstart := 812, bitcnt := 28, att := 3, pkt := 0x4001234, ok := true }) ⟨8, 0⟩)
      (fun t => t.regs.state == .recoverDelay && t.regs.tdly == 1762 && t.regs.pkt == 0x4001234 && t.regs.ok) = true := by
  decide

/-- L2.2 row 1: `start` in IDLE with ATT = 3. -/
theorem test_acquire_idle :
    stepGives (withRegs { Regs.reset with att := 3 } ⟨8, 1⟩)
      (fun t => t.regs.state == .syncHi && t.regs.att == 0 && t.regs.busy) = true := by decide

/-- L2.4 row 5 in a cycle with `start` = 1: FAIL is given, and `start` is ignored (R90). -/
theorem test_acquire_busy :
    stepGives (withRegs (rising { Regs.reset with
        state := .sample, ts := 1712, tstart := 812, bitcnt := 28, att := 4, pkt := 0x4001234, ok := true }) ⟨8, 1⟩)
      (fun t => t.regs.state == .idle && t.regs.pkt == 0 && !t.regs.ok && t.regs.done && t.regs.att == 4) = true := by
  decide

/-- L2.3 row 9: reset in SAMPLE, with `start` 0 and 1. -/
theorem test_reset_in_sample :
    stepGives (withRegs { Regs.reset with state := .sample, sr := 0x1A000000, bitcnt := 6, ts := 1000, pkt := 0x4001234, ok := true }
      ⟨8, 2⟩) (fun t => t.regs == Regs.reset) = true ∧
    stepGives (withRegs { Regs.reset with state := .sample, sr := 0x1A000000, bitcnt := 6, ts := 1000 } ⟨8, 3⟩)
      (fun t => t.regs == Regs.reset) = true := by decide

/-- The example of R165. -/
theorem test_read_packet :
    stepGives (withRegs { Regs.reset with pkt := 0x5000567 } ⟨32, 0⟩)
      (fun t => t.hostRead == some (.packet 0x5000567)) = true := by decide

/-- L2.6 rows 8 and 9. -/
theorem test_digits :
    stepGives (withRegs { Regs.reset with pkt := 0xFFFFFFF } ⟨24, 0⟩)
      (fun t => t.hostRead == some (.digitsBcd 0xFFFFF)) = true ∧
    stepGives (withRegs { Regs.reset with pkt := 0x30A9876 } ⟨24, 0⟩)
      (fun t => t.hostRead == some (.digitsBcd 0xA9876)) = true := by decide

/-- L2.6 rows 3 and 4. -/
theorem test_negative :
    stepGives (withRegs { Regs.reset with pkt := 0x1000000 } ⟨32, 0x1000000⟩)
      (fun t => t.hostRead == some (.negative true)) = true ∧
    stepGives (withRegs { Regs.reset with pkt := 0x2000001 } ⟨32, 0x1000000⟩)
      (fun t => t.hostRead == some (.negative false)) = true := by decide

/-- L2.6 rows 2 and 1. -/
theorem test_metric_and_inch :
    stepGives (withRegs { Regs.reset with pkt := 0x4001234 } ⟨32, 0x4000000⟩)
      (fun t => t.hostRead == some (.metric true)) = true ∧
    stepGives (withRegs Regs.reset ⟨32, 0x80000000⟩)
      (fun t => t.hostRead == some (.inch true)) = true := by decide

/-- L2.6 row 6: `half` is not gated by `inch`. -/
theorem test_half :
    stepGives (withRegs { Regs.reset with pkt := 0x6000000 } ⟨32, 0x2000000⟩)
      (fun t => t.hostRead == some (.half true)) = true := by decide

/-- L2.5 rows 7 and 11. -/
theorem test_status :
    stepGives (withRegs { Regs.reset with state := .sample, att := 1 } ⟨8, 0x80⟩)
      (fun t => t.hostRead == some (.status 0x09)) = true ∧
    stepGives (withRegs { Regs.reset with att := 4, done := true } ⟨8, 0x80⟩)
      (fun t => t.hostRead == some (.status 0x22)) = true := by decide

/-- L2.1, cycle 0, and the tick row with TS = 0xFFFFFFFF. -/
theorem test_synchronizer_and_wrap :
    let t := ({ Regs.reset with ts := 0xFFFFFFFF }).step ⟨false, false, false, false, true⟩
    t.cs1 = false ∧ t.cs2 = true ∧ t.cs3 = true ∧ t.ds1 = false ∧ t.ds2 = true ∧ t.ts = 0 := by decide

/-- The examples of R101 and R102 for lines that meet R205 and R206: a rise in a cycle gives CS1 = 1 in the next, with the
data level held around it in DS1. -/
theorem test_line_rise :
    let low : Pins := ⟨.low, .low, true⟩
    let high : Pins := ⟨.high, .low, true⟩
    let t := ({ State.reset with
      regs := { Regs.reset with cs1 := false }, pastPins := [low, low], pinQueue := [high, high] }).cycle false false
    t.regs.cs1 = true ∧ t.regs.ds1 = false ∧ t.pinQueue = [high] ∧ t.pastPins = [high, low, low] := by decide

/-- L2.1, the rows of `since`: across a wrap of TS too. -/
theorem test_since :
    ({ Regs.reset with ts := 312 }).since 4294966808 = 800 ∧ ({ Regs.reset with ts := 5 }).since 10 = 4294967291 := by
  decide

/-- L2.3 rows 1 to 3. -/
theorem test_shift :
    shiftIn true 0 = 0x10000000 ∧ shiftIn false 0x10000000 = 0x08000000 ∧ shiftIn true 0x08000000 = 0x14000000 := by
  decide

/-- L2.2 rows 9 and 10: the fall one tick before the pause ends is lost. -/
theorem test_pause_boundary :
    ((falling { Regs.reset with state := .recoverDelay, tdly := 1762, ts := 11761 }).step
      ⟨false, false, false, true, true⟩).state = .recoverDelay ∧
    (({ Regs.reset with state := .recoverDelay, tdly := 1762, ts := 11762 } : Regs).step
      ⟨false, false, true, true, true⟩).state = .recoverWaitLow := by decide

/-- L2.2 row 14. -/
theorem test_unused_code :
    let t := ({ Regs.reset with state := .unused6, pkt := 5, ok := true } : Regs).step ⟨false, false, true, true, true⟩
    t.state = .idle ∧ t.done = false ∧ t.pkt = 5 ∧ t.ok = true := by decide

/-! ## Witnesses for the statements' hypotheses -/

/-- A cycle with no reset, no `start`, both lines high and a tick. -/
def quiet : Inputs := ⟨false, false, true, true, true⟩

/-- StepRunsTheDecodedOperation: a word that decodes, and one that does not. -/
theorem witness_host_words :
    (withRegs Regs.reset ⟨8, 1⟩).hostQueue = [⟨8, 1⟩] ∧ decode ⟨8, 1⟩ = .ok .acquire ∧
    (withRegs Regs.reset ⟨8, 4⟩).hostQueue = [⟨8, 4⟩] ∧ decode ⟨8, 4⟩ = .error (.notHostctl 4) := by decide

/-- StepWithoutRequestRunsSomeControlOperation. -/
theorem witness_no_request : State.reset.hostQueue = [] := rfl

/-- The machine's reset state with pins of the past, the latest first, and of the cycles to come. -/
def withPins (past next : List Pins) : State := { State.reset with pastPins := past, pinQueue := next }

/-- PinsGiveTheInputsOfTheCycle: no pins, and changing ones. -/
theorem witness_pins :
    State.reset.pinQueue = [] ∧ (withPins [] [⟨.changing, .changing, false⟩]).pinQueue = ⟨.changing, .changing, false⟩ :: [] := by
  decide

/-- LongClockPhaseIsSeenWhole: the shortest such phase, high, and the same low. -/
theorem witness_long_phase :
    let h : List Pins := [⟨.high, .low, true⟩, ⟨.high, .high, true⟩]
    let l : List Pins := [⟨.low, .low, true⟩, ⟨.low, .high, true⟩]
    (withPins [] (h ++ l)).pinQueue = h ++ l ∧ 2 ≤ h.length ∧ [(false, false), (false, true)].length = h.length ∧
    (∀ p ∈ h, p.calClk = if true then .high else .low) ∧ (∀ p ∈ l, p.calClk = if false then .high else .low) := by decide

/-- ShortClockPhaseIsADraw: a high phase of one cycle in a low line, and a cycle whose neighbours are not given. -/
theorem witness_short_phase :
    let b : Pins := ⟨.low, .low, true⟩
    let p : Pins := ⟨.high, .low, true⟩
    ((withPins [b] [p, b]).pinQueue = p :: [b] ∧ (∀ c, (withPins [b] [p, b]).pastPins[0]? = some c → c.calClk ≠ p.calClk) ∧
      ∀ x, [b][0]? = some x → x.calClk ≠ p.calClk) ∧
    (withPins [] [p]).pinQueue = p :: [] ∧ (withPins [] [p]).pastPins[0]? = none := by
  refine ⟨⟨rfl, ?_, ?_⟩, rfl, rfl⟩
  · intro c h; cases h; decide
  · intro x h; cases h; decide

/-- DataIsSampledWhereItHoldsAroundTheRise: a rise after a low of one cycle with the data held and with it moving in the
next cycle, and a late-caught one with the data held around the change and with it moving in the cycle of the catch. In each
the clock is caught rising. -/
theorem witness_data_around_rise :
    let h : Pins := ⟨.high, .low, true⟩
    let b : Pins := ⟨.low, .high, true⟩
    let c : Pins := ⟨.changing, .high, true⟩
    let p : Pins := ⟨.high, .high, true⟩
    let caught : State → Prop := fun s => s.regs.cs1 = false ∧ (s.cycleInputs false false).calClk = true
    let at0 : List Pins → List Pins → State := fun past next =>
      { withPins past next with regs := { Regs.reset with cs1 := false } }
    (b.calClk = .low ∧ c.calClk = .changing ∧ p.calClk = .high ∧ h.calClk = .high) ∧
    (b.calData = p.calData ∧ p.calData ≠ h.calData ∧ c.calData = p.calData) ∧
    ((at0 [b, h] [p, p]).pastPins = b :: [h] ∧ (at0 [b, h] [p, p]).pinQueue = p :: p :: [] ∧ caught (at0 [b, h] [p, p])) ∧
    caught (at0 [b, h] [p, h]) ∧ caught (at0 [c, b] [p, p]) ∧ caught (at0 [c, b] [h, h]) := by decide

/-- HeldDataIsCapturedWhateverTheClock: a clock that changes in every cycle. -/
theorem witness_held_data :
    let c : Pins := ⟨.changing, .low, true⟩
    (withPins [c, c, c] [c, c, c]).pastPins = c :: c :: c :: [] ∧ (withPins [c, c, c] [c, c, c]).pinQueue = c :: c :: c :: [] ∧
    ∀ q ∈ [c, c, c, c, c, c], q.calData = if false then .high else .low := by decide

/-- R206 and R108 after a low of one cycle (lines H, H, L, H, H): data that moved in the cycle before the rise and
holds around it is captured as it is. -/
theorem test_rise_after_short_low :
    let h : Pins := ⟨.high, .high, true⟩
    let l : Pins := ⟨.low, .low, true⟩
    let p : Pins := ⟨.high, .low, true⟩
    (({ withPins [l, h, h] [p, p] with regs := { Regs.reset with cs1 := false } } : State).cycleInputs false false).calData =
      false := by decide

/-- HostctlSelectsTheOperation, AcquireStartsOnlyInIdle, AcquireWhileBusyIsIgnored and NopDoesNothingForTheHost: an idle
state and a busy one. -/
theorem witness_idle_and_busy :
    State.reset.regs.state = .idle ∧ (withRegs { Regs.reset with state := .syncHi } ⟨8, 1⟩).regs.state ≠ .idle ∧
    (withRegs { Regs.reset with state := .syncHi } ⟨8, 1⟩).regs.busy = true := by decide

/-- EveryCycleMovesLinesAndTime, DoneMarksTheEndOfAnAcquisition and OnlyTimeDifferencesMatter: a cycle with `rst` = 0. -/
theorem witness_no_reset : quiet.rst = false ∧ ∀ i ∈ [quiet, quiet], i.rst = false := by decide

/-- PinEdgeIsSeenOnceTwoCyclesLater: a rise after a low line, and a fall after a high one. -/
theorem witness_pin_edges :
    (quiet.rst = false ∧ quiet.calClk = quiet.calClk ∧ quiet.calClk ≠ (falling Regs.reset).cs1) ∧
    ((Inputs.mk false false false true true).rst = false ∧ (Inputs.mk false false false true true).calClk ≠ Regs.reset.cs1) := by
  decide

/-- IdleWaitsForStart. -/
theorem witness_idle_run : Regs.reset.state = .idle ∧ ∀ i ∈ [quiet, quiet], i.rst = false ∧ i.start = false := by decide

/-- SyncHiTakesTheRise: a rise, and a fall that is no rise. -/
theorem witness_sync_hi :
    quiet.rst = false ∧
    ((rising { Regs.reset with state := .syncHi }).state = .syncHi ∧
      (rising { Regs.reset with state := .syncHi }).cs2 = true ∧ (rising { Regs.reset with state := .syncHi }).cs3 = false) ∧
    ((falling { Regs.reset with state := .syncHi }).state = .syncHi ∧
      ¬((falling { Regs.reset with state := .syncHi }).cs2 = true ∧ (falling { Regs.reset with state := .syncHi }).cs3 = false)) := by
  decide

/-- SyncLoTestsTheGap: gaps of 800 and 799 ticks, the first across a wrap of TS, and no fall. -/
theorem witness_sync_lo :
    let a := falling { Regs.reset with state := .syncLo, ts := 312, t0 := 4294966808 }
    let b := falling { Regs.reset with state := .syncLo, ts := 811, t0 := 12 }
    let c := { Regs.reset with state := .syncLo }
    (a.state = .syncLo ∧ (a.cs2 = false ∧ a.cs3 = true) ∧ (a.ts - a.t0).toNat = 800) ∧
    (b.state = .syncLo ∧ (b.cs2 = false ∧ b.cs3 = true) ∧ (b.ts - b.t0).toNat = 799) ∧
    (c.state = .syncLo ∧ ¬(c.cs2 = false ∧ c.cs3 = true)) := by decide

/-- SampleTakesOneBitPerRise: a rise before the 29th, the 29th, and none. -/
theorem witness_sample :
    let a := rising { Regs.reset with state := .sample, bitcnt := 27 }
    let b := rising { Regs.reset with state := .sample, bitcnt := 28 }
    let c := { Regs.reset with state := .sample }
    (a.state = .sample ∧ (a.cs2 = true ∧ a.cs3 = false) ∧ a.bitcnt ≠ 28) ∧
    (b.state = .sample ∧ (b.cs2 = true ∧ b.cs3 = false) ∧ b.bitcnt = 28) ∧
    (c.state = .sample ∧ ¬(c.cs2 = true ∧ c.cs3 = false)) := by decide

/-- The completion cycle of an attempt that took `e` ticks and is attempt `n`. -/
def completion (e : Timestamp) (n : AttemptCount) : Regs :=
  rising { Regs.reset with state := .sample, ts := 812 + e, tstart := 812, bitcnt := 28, att := n }

/-- ValidVerdictCommitsThePacket, RetryVerdictStartsTheRecovery and FailVerdictZeroesThePacket: 899 and 900 ticks, with
attempts left and with none. -/
theorem witness_verdicts :
    ((completion 899 4).completes ∧ ((completion 899 4).ts - (completion 899 4).tstart).toNat = 899) ∧
    ((completion 900 3).completes ∧ ((completion 900 3).ts - (completion 900 3).tstart).toNat = 900 ∧
      (completion 900 3).att ≠ 4) ∧
    ((completion 900 4).completes ∧ ((completion 900 4).ts - (completion 900 4).tstart).toNat = 900 ∧
      (completion 900 4).att = 4) := by decide

/-- RecoverDelayWaitsOutThePause: 9999 and 10000 ticks, with and without a fall. -/
theorem witness_recover_delay :
    let a := falling { Regs.reset with state := .recoverDelay, tdly := 1762, ts := 11761 }
    let b := falling { Regs.reset with state := .recoverDelay, tdly := 1762, ts := 11762 }
    let c := { Regs.reset with state := .recoverDelay, tdly := 1762, ts := 11762 }
    (a.state = .recoverDelay ∧ (a.ts - a.tdly).toNat = 9999) ∧
    (b.state = .recoverDelay ∧ (b.ts - b.tdly).toNat = 10000 ∧ (b.cs2 = false ∧ b.cs3 = true)) ∧
    (c.state = .recoverDelay ∧ (c.ts - c.tdly).toNat = 10000 ∧ ¬(c.cs2 = false ∧ c.cs3 = true)) := by decide

/-- RecoverWaitLowTakesTheFall: a fall, and a rise that is no fall. -/
theorem witness_recover_wait_low :
    let a := falling { Regs.reset with state := .recoverWaitLow }
    let b := rising { Regs.reset with state := .recoverWaitLow }
    (a.state = .recoverWaitLow ∧ (a.cs2 = false ∧ a.cs3 = true)) ∧
    (b.state = .recoverWaitLow ∧ ¬(b.cs2 = false ∧ b.cs3 = true)) := by decide

/-- UnusedCodesGoToIdle: both codes. -/
theorem witness_unused :
    ({ Regs.reset with state := .unused6 } : Regs).state = .unused6 ∧
    ({ Regs.reset with state := .unused7 } : Regs).state = .unused7 := by decide

/-- PauseIsNeverShorter: the last cycle judged has 9999 ticks. -/
theorem witness_pause :
    let r := { Regs.reset with state := .recoverDelay, tdly := 0, ts := 9998 }
    r.state = .recoverDelay ∧ (∀ i ∈ [quiet, quiet], i.rst = false) ∧
    (r.ts - r.tdly).toNat + ([quiet, quiet].dropLast).countP (fun i => i.usTick) = 9999 := by decide

/-- PauseEndsIfTimeRuns. -/
theorem witness_time_runs :
    ({ Regs.reset with state := .recoverDelay } : Regs).state = .recoverDelay ∧ (List.replicate 10001 quiet).length = 10001 ∧
    ∀ i ∈ List.replicate 10001 quiet, i.rst = false ∧ i.usTick = true := by
  refine ⟨rfl, List.length_replicate, fun i h => ?_⟩
  rw [List.eq_of_mem_replicate h]
  exact ⟨rfl, rfl⟩

/-- StateMovesOnlyAlongTheGraph: counters at their bounds, at the bounds of the time tests, and in an unused code. -/
theorem witness_graph :
    Regs.reset.countersInRange ∧ (falling { Regs.reset with state := .syncLo, ts := 799 }).countersInRange ∧
    (falling { Regs.reset with state := .syncLo, ts := 800 }).countersInRange ∧ (completion 899 1).countersInRange ∧
    (completion 900 3).countersInRange ∧ (completion 900 4).countersInRange ∧
    ({ Regs.reset with state := .unused6 } : Regs).countersInRange := by
  refine ⟨?_, ?_, ?_, ?_, ?_, ?_, ?_⟩ <;> exact ⟨by decide, by decide⟩

/-- PacketIsWrittenOnlyAtTheEnd and DoneMarksTheEndOfAnAcquisition: a cycle that ends no acquisition (a RETRY verdict),
and two that do. -/
theorem witness_ends :
    ¬(completion 900 3).ends ∧ (completion 899 1).ends ∧ (completion 900 4).ends := by decide

/-- OnlyResetCancelsAnAcquisition: a busy block that is idle a cycle later, by a verdict and by reset. -/
theorem witness_left :
    ((completion 899 1).codeInUse ∧ (completion 899 1).busy = true ∧ ((completion 899 1).step quiet).busy = false) ∧
    ((completion 900 1).codeInUse ∧ (completion 900 1).busy = true ∧
      ((completion 900 1).step ⟨true, false, true, true, true⟩).busy = false) := by
  refine ⟨⟨⟨by decide, by decide⟩, by decide, by decide⟩, ⟨⟨by decide, by decide⟩, by decide, by decide⟩⟩

/-- WaitsHaveNoTimeout: SYNC_HI in a cycle with a fall, RECOVER_WAIT_LOW in one with a rise, and a pause without ticks. -/
theorem witness_waits :
    (let r := falling { Regs.reset with state := .syncHi }
     r.state = .syncHi ∧ (∀ i ∈ [quiet, quiet], i.rst = false) ∧
       ∀ n < 2, ¬((r.run ([quiet, quiet].take n)).cs2 = true ∧ (r.run ([quiet, quiet].take n)).cs3 = false)) ∧
    (let r := rising { Regs.reset with state := .recoverWaitLow }
     r.state = .recoverWaitLow ∧
       ∀ n < 2, ¬((r.run ([quiet, quiet].take n)).cs2 = false ∧ (r.run ([quiet, quiet].take n)).cs3 = true)) ∧
    (let r := { Regs.reset with state := .recoverDelay, ts := 9999 }
     r.state = .recoverDelay ∧ (r.ts - r.tdly).toNat = 9999 ∧
       ∀ i ∈ [(⟨false, false, false, true, false⟩ : Inputs)], i.rst = false ∧ i.usTick = false) := by decide

/-- AttemptsCountThePauses: the cycle of a VALID verdict on the first attempt. -/
theorem witness_attempts :
    (completion 899 1).state = .sample ∧ (completion 899 1).att = 1 ∧
    (∀ i ∈ [quiet], i.rst = false ∧ i.start = false) ∧ ((completion 899 1).run [quiet]).state = .idle := by decide

/-- StepKeepsTheStateSafe: a safe state from which a step answers. -/
theorem witness_safe : State.reset.Safe ∧ ∃ t, step (State.reset.withFetchWord 8 1) = .next t := by
  refine ⟨⟨⟨by decide, by decide⟩, ⟨by decide, by decide⟩, trivial, ⟨by decide, by decide, by decide⟩, ?_, ?_⟩, _, rfl⟩
  · intro h; cases h
  · intro h; cases h

/-- SampledBitsFillThePacketInOrder: 28 rises, one every second cycle, and then the 29th. -/
theorem witness_sampled :
    let r : Regs := { Regs.reset with state := .sample, att := 1, cs1 := false, cs2 := false, cs3 := false }
    let is := (List.replicate 29 [quiet, (⟨false, false, false, false, true⟩ : Inputs)]).flatten
    r.state = .sample ∧ r.bitcnt = 0 ∧ (∀ i ∈ is, i.rst = false) ∧ quiet.rst = false ∧
    (r.samplesTaken is).length = 28 ∧ (r.run is).rise = true ∧ ((r.run is).ts - r.tstart).toNat < 900 := by
  decide +kernel

/-- DataLineNeverMovesTheControl: the same cycle with the data line high and low. -/
theorem witness_data_line :
    Inputs.SameButData quiet ⟨false, false, true, false, true⟩ ∧
    Regs.SameControl Regs.reset { Regs.reset with ds1 := false, ds2 := false, sr := 1, pkt := 2 } :=
  ⟨rfl, rfl⟩

/-- StepReadsOnlyWhatItsStateNeeds: two states in SAMPLE with different leftovers. -/
theorem witness_same_ahead :
    Regs.SameAhead (completion 899 1) { completion 899 1 with t0 := 5, tdly := 7, pkt := 9, ok := true } := by
  refine ⟨rfl, rfl, rfl, rfl, rfl, rfl, rfl, rfl, rfl, ?_, fun _ => ⟨rfl, rfl, rfl⟩, ?_, ?_⟩ <;> intro h <;> cases h

/-- AcquisitionForgetsThePast: the reset state, and an idle state with the leftovers of an acquisition. -/
theorem witness_forgets :
    Regs.SameNow Regs.reset { Regs.reset with att := 4, sr := 5, bitcnt := 28, t0 := 12, tstart := 812, pkt := 5, ok := true } ∧
    ({ quiet with start := true }).rst = false ∧ ({ quiet with start := true }).start = true := by
  refine ⟨⟨rfl, rfl, rfl, rfl, rfl, rfl, rfl, rfl⟩, rfl, rfl⟩

/-- QueriesHaveNoSideEffect. -/
theorem witness_query : Instr.isHalf.isQuery = true := rfl

/-- FieldsSurviveTheRoundTrip: L2.6 row 9. -/
theorem witness_fields : ({ Regs.reset with pkt := 0x30A9876 } : Regs).pkt = packetOfFields false true true 0xA 9 8 7 6 := by
  decide

/-- ReservedBitsReachNoFieldOutput: L2.6 row 7 and row 1, which differ in every reserved bit. -/
theorem witness_reserved :
    ∀ k < 28, k ≠ 20 → k ≠ 21 → k ≠ 22 → k ≠ 23 → k ≠ 27 →
      ({ Regs.reset with pkt := 0x8F00000 } : Regs).pkt.getLsbD k = Regs.reset.pkt.getLsbD k := by
  have h : ∀ k < 28, (k = 20 ∨ k = 21 ∨ k = 22 ∨ k = 23 ∨ k = 27) ∨
      ({ Regs.reset with pkt := 0x8F00000 } : Regs).pkt.getLsbD k = Regs.reset.pkt.getLsbD k := by decide
  intro k hk h0 h1 h2 h3 h4
  exact (h k hk).resolve_left (by omega)

end Sys2Proof.Machine
end

section
/-! SUPPORT. A common move of the four timestamp registers (R12, R209). The block reads a timestamp only as a difference to
TS, so every test is unchanged by `Regs.shiftTime`, and every write commutes with it. -/

namespace Sys2Proof.Machine

/-! The tests and the registers that `Regs.shiftTime` leaves as they were. -/

@[simp] theorem Regs.shiftTime_state (d : Timestamp) (r : Regs) : (r.shiftTime d).state = r.state := rfl
@[simp] theorem Regs.shiftTime_rise (d : Timestamp) (r : Regs) : (r.shiftTime d).rise = r.rise := rfl
@[simp] theorem Regs.shiftTime_fall (d : Timestamp) (r : Regs) : (r.shiftTime d).fall = r.fall := rfl
@[simp] theorem Regs.shiftTime_lastSample (d : Timestamp) (r : Regs) : (r.shiftTime d).lastSample = r.lastSample := rfl
@[simp] theorem Regs.shiftTime_budgetSpent (d : Timestamp) (r : Regs) : (r.shiftTime d).budgetSpent = r.budgetSpent := rfl

/-- The ticks since a timestamp do not change when TS and the timestamp move together (R12). -/
theorem Regs.shiftTime_since (d : Timestamp) (r : Regs) (t : Timestamp) :
    (r.shiftTime d).since (t + d) = r.since t :=
  add_sub_add_right_eq_sub r.ts t d

@[simp] theorem Regs.shiftTime_gapOk (d : Timestamp) (r : Regs) : (r.shiftTime d).gapOk = r.gapOk := by
  unfold Regs.gapOk
  rw [← Regs.shiftTime_since d r r.t0]
  rfl

@[simp] theorem Regs.shiftTime_pauseOver (d : Timestamp) (r : Regs) : (r.shiftTime d).pauseOver = r.pauseOver := by
  unfold Regs.pauseOver
  rw [← Regs.shiftTime_since d r r.tdly]
  rfl

@[simp] theorem Regs.shiftTime_elapsed (d : Timestamp) (r : Regs) : (r.shiftTime d).elapsed = r.elapsed :=
  Regs.shiftTime_since d r r.tstart

@[simp] theorem Regs.shiftTime_verdict (d : Timestamp) (r : Regs) : (r.shiftTime d).verdict = r.verdict := by
  unfold Regs.verdict
  rw [Regs.shiftTime_elapsed, Regs.shiftTime_budgetSpent]

/-! The writes, each of which takes the moved timestamps to the moved result. -/

theorem Regs.shiftTime_unmoved (d : Timestamp) (r : Regs) (i : Inputs) :
    (r.shiftTime d).unmoved i = (r.unmoved i).shiftTime d := by
  simp only [Regs.unmoved, Regs.shiftTime, add_right_comm r.ts d]

theorem Regs.shiftTime_judge (d : Timestamp) (r w : Regs) :
    (r.shiftTime d).judge (w.shiftTime d) = (r.judge w).shiftTime d := by
  unfold Regs.judge
  rw [Regs.shiftTime_verdict]
  cases r.verdict <;> rfl

theorem Regs.shiftTime_idleArm (d : Timestamp) (i : Inputs) (w : Regs) :
    Regs.idleArm i (w.shiftTime d) = (Regs.idleArm i w).shiftTime d := by
  unfold Regs.idleArm
  split <;> rfl

theorem Regs.shiftTime_syncHiArm (d : Timestamp) (r w : Regs) :
    (r.shiftTime d).syncHiArm (w.shiftTime d) = (r.syncHiArm w).shiftTime d := by
  unfold Regs.syncHiArm
  rw [Regs.shiftTime_rise]
  split <;> rfl

theorem Regs.shiftTime_syncLoArm (d : Timestamp) (r w : Regs) :
    (r.shiftTime d).syncLoArm (w.shiftTime d) = (r.syncLoArm w).shiftTime d := by
  unfold Regs.syncLoArm
  rw [Regs.shiftTime_fall, Regs.shiftTime_gapOk]
  split
  · split <;> rfl
  · rfl

theorem Regs.shiftTime_sampleArm (d : Timestamp) (r w : Regs) :
    (r.shiftTime d).sampleArm (w.shiftTime d) = (r.sampleArm w).shiftTime d := by
  unfold Regs.sampleArm
  rw [Regs.shiftTime_rise, Regs.shiftTime_lastSample]
  split
  · split
    · exact Regs.shiftTime_judge d r (r.takeSample w)
    · rfl
  · rfl

theorem Regs.shiftTime_recoverDelayArm (d : Timestamp) (r w : Regs) :
    (r.shiftTime d).recoverDelayArm (w.shiftTime d) = (r.recoverDelayArm w).shiftTime d := by
  unfold Regs.recoverDelayArm
  rw [Regs.shiftTime_pauseOver, Regs.shiftTime_fall]
  split
  · split <;> rfl
  · rfl

theorem Regs.shiftTime_recoverWaitLowArm (d : Timestamp) (r w : Regs) :
    (r.shiftTime d).recoverWaitLowArm (w.shiftTime d) = (r.recoverWaitLowArm w).shiftTime d := by
  unfold Regs.recoverWaitLowArm
  rw [Regs.shiftTime_fall]
  split <;> rfl

theorem Regs.shiftTime_arm (d : Timestamp) (r : Regs) (i : Inputs) (w : Regs) :
    (r.shiftTime d).arm i (w.shiftTime d) = (r.arm i w).shiftTime d := by
  unfold Regs.arm
  rw [Regs.shiftTime_state]
  cases r.state with
  | idle => exact Regs.shiftTime_idleArm d i w
  | syncHi => exact Regs.shiftTime_syncHiArm d r w
  | syncLo => exact Regs.shiftTime_syncLoArm d r w
  | sample => exact Regs.shiftTime_sampleArm d r w
  | recoverDelay => exact Regs.shiftTime_recoverDelayArm d r w
  | recoverWaitLow => exact Regs.shiftTime_recoverWaitLowArm d r w
  | unused6 => rfl
  | unused7 => rfl

/-- Without reset, which clears TS, the order of a cycle and a move of the timestamps does not matter. -/
theorem Regs.shiftTime_step (d : Timestamp) (r : Regs) (i : Inputs) (hi : i.rst = false) :
    (r.shiftTime d).step i = (r.step i).shiftTime d := by
  simp only [Regs.step, hi, Bool.false_eq_true, if_false, Regs.everyCycle_eq_unmoved, Regs.shiftTime_unmoved,
    Regs.shiftTime_arm]

/-- Settles O41, by induction on the inputs, each cycle commuting with the move of the timestamps. -/
theorem onlyTimeDifferencesMatter : Obligations.OnlyTimeDifferencesMatter := by
  intro is d
  induction is with
  | nil => exact fun _ _ => rfl
  | cons i is ih =>
    intro r h
    obtain ⟨hi, his⟩ := List.forall_mem_cons.mp h
    rw [Regs.run_cons, Regs.run_cons, Regs.shiftTime_step d r i hi]
    exact ih (r.step i) his

end Sys2Proof.Machine
end

section
/-! SUPPORT. What the environment leaves free (R14, R109): the operation where no request is given, and the levels and the
tick where the pins do not give them. -/

namespace Sys2Proof.Machine

/-- Without a request the state itself is what the operation runs on: there is no word to take off. -/
theorem State.popRequest_of_hostQueue_nil {s : State} (h : s.hostQueue = []) : s.popRequest = s := by
  rw [State.popRequest, h, List.tail_nil, ← h]

theorem step_of_hostQueue_nil {s : State} (h : s.hostQueue = []) :
    step s = exec (Instr.ofHostctl (Config.freeHostctl s.draws)) s := by
  simp only [step, State.nextOperation, h, State.popRequest_of_hostQueue_nil h]

/-- Settles O5, with the free value of HOSTCTL of the cycle. -/
theorem stepWithoutRequestRunsSomeControlOperation : Obligations.StepWithoutRequestRunsSomeControlOperation :=
  fun s h => ⟨Config.freeHostctl s.draws, step_of_hostQueue_nil h⟩

/-- CS1 captures a draw where the present cycle does not give `cal_clk` a level (R109). -/
theorem State.capturedClk_of_clkLine_none {s : State} (h : clkLine s.pinQueue 0 = none) :
    s.capturedClk = Config.freeClkLevel s.draws := by
  obtain ⟨-, hc⟩ | ⟨-, v, hv, -⟩ := s.capturedClk_cases
  · exact hc
  · rw [h] at hv
    cases hv

/-- DS1 captures a draw where the present cycle does not give `cal_data` a level (R109). -/
theorem State.capturedData_of_dataLine_none {s : State} (h : dataLine s.pinQueue 0 = none) :
    s.capturedData = Config.freeDataLevel s.draws := by
  obtain ⟨-, -, hc⟩ | ⟨-, hc⟩ := s.capturedData_cases
  · exact hc
  · rw [hc, h, Option.getD_none]

@[simp] theorem clkLine_nil (k : Nat) : clkLine [] k = none := rfl

@[simp] theorem dataLine_nil (k : Nat) : dataLine [] k = none := rfl

@[simp] theorem clkLine_cons_zero (p : Pins) (ps : List Pins) : clkLine (p :: ps) 0 = p.calClk.settled := rfl

@[simp] theorem dataLine_cons_zero (p : Pins) (ps : List Pins) : dataLine (p :: ps) 0 = p.calData.settled := rfl

@[simp] theorem Pin.settled_changing : Pin.changing.settled = none := rfl

theorem State.cycleInputs_usTick_of_nil {s : State} (h : s.pinQueue = []) (rst start : Bool) :
    (s.cycleInputs rst start).usTick = Config.freeTick s.draws := by
  simp [State.cycleInputs, h]

theorem State.cycleInputs_usTick_of_cons {s : State} {p : Pins} {rest : List Pins} (h : s.pinQueue = p :: rest)
    (rst start : Bool) : (s.cycleInputs rst start).usTick = p.usTick := by
  simp [State.cycleInputs, h]

/-- Settles O8: HOSTCTL by definition, and each line from whether the present cycle gives it a level. -/
theorem pinsGiveTheInputsOfTheCycle : Obligations.PinsGiveTheInputsOfTheCycle := by
  refine fun s rst start => ⟨rfl, rfl, fun h => ⟨?_, ?_, ?_⟩, fun p rest h => ⟨?_, fun hp => ?_, fun hp => ?_⟩⟩
  · exact State.capturedClk_of_clkLine_none (by rw [h, clkLine_nil])
  · exact State.capturedData_of_dataLine_none (by rw [h, dataLine_nil])
  · exact State.cycleInputs_usTick_of_nil h rst start
  · exact State.cycleInputs_usTick_of_cons h rst start
  · exact State.capturedClk_of_clkLine_none (by rw [h, clkLine_cons_zero, hp, Pin.settled_changing])
  · exact State.capturedData_of_dataLine_none (by rw [h, dataLine_cons_zero, hp, Pin.settled_changing])

end Sys2Proof.Machine
end

section
/-! SUPPORT. Single cycles of the block (R46, R86, R144) and the words and states that follow from one operation. -/

namespace Sys2Proof.Machine

theorem Regs.step_of_rst (r : Regs) {i : Inputs} (h : i.rst = true) : r.step i = Regs.reset := if_pos h

/-- Without `start` an idle block's state arm writes nothing (R86, R117). -/
theorem Regs.step_of_idle {r : Regs} {i : Inputs} (hs : r.state = .idle) (hr : i.rst = false) (hi : i.start = false) :
    r.step i = r.unmoved i := by
  simp [Regs.step, Regs.arm, Regs.idleArm, Regs.everyCycle_eq_unmoved, hs, hr, hi]

/-- The completion cycle by the tests of the control unit (R144). -/
theorem Regs.completes_iff (r : Regs) :
    r.completes ↔ r.state = .sample ∧ r.rise = true ∧ r.lastSample = true := by
  rw [Regs.rise_iff, Regs.lastSample_iff, and_assoc]

/-- An acquisition ends by the verdict VALID or FAIL (R150). -/
theorem Regs.ends_iff (r : Regs) :
    r.ends ↔ r.state = .sample ∧ r.rise = true ∧ r.lastSample = true ∧ r.verdict ≠ .retry := by
  have hv : ((r.ts - r.tstart).toNat < 900 ∨ r.att = 4) ↔ r.verdict ≠ .retry := by
    obtain ⟨hv, ht⟩ | ⟨hv, -, ha⟩ | ⟨hv, ht, ha⟩ := r.verdict_cases
    · exact iff_of_true (.inl ht) (by rw [hv]; nofun)
    · exact iff_of_true (.inr ha) (by rw [hv]; nofun)
    · exact iff_of_false (not_or.mpr ⟨Nat.not_lt.mpr ht, ha⟩) (not_not.mpr hv)
  rw [Regs.ends, Regs.completes_iff, hv]
  simp only [and_assoc]

/-- Settles O13: with `rst` = 1 the next registers are those of Table S1, whatever they were. -/
theorem resetOperationGivesTableS1 : Obligations.ResetOperationGivesTableS1 := by
  intro x s
  refine ⟨s.cycle true x, rfl, ?_⟩
  rw [State.cycle_regs, Regs.step_of_rst _ rfl]
  exact ⟨rfl, rfl, rfl, rfl, rfl, rfl, rfl, rfl, rfl, rfl, rfl, rfl, rfl, rfl, rfl, rfl, rfl⟩

theorem Regs.busy_iff (r : Regs) : r.busy = true ↔ r.state ≠ .idle := bne_iff_ne

theorem Regs.busy_of_idle {r : Regs} (hs : r.state = .idle) : r.busy = false :=
  Bool.eq_false_iff.mpr fun h => r.busy_iff.mp h hs

/-- The places of the flags and of ATT in the status word (R38). -/
theorem Regs.statusWord_getLsbD (r : Regs) :
    r.statusWord.getLsbD 0 = r.busy ∧ r.statusWord.getLsbD 1 = r.done ∧ r.statusWord.getLsbD 2 = r.ok ∧
      ∀ k < 3, r.statusWord.getLsbD (3 + k) = r.att.getLsbD k := by
  refine ⟨?_, ?_, ?_, fun k _ => ?_⟩
  · cases h : r.busy <;> simp only [Regs.statusWord, BitVec.getLsbD_append, h] <;> rfl
  · cases h : r.done <;> simp only [Regs.statusWord, BitVec.getLsbD_append, h] <;> rfl
  · cases h : r.ok <;> simp only [Regs.statusWord, BitVec.getLsbD_append, h] <;> rfl
  · have h1 : ¬ 3 + k < 1 := by omega
    have h2 : ¬ 3 + k - 1 < 1 := by omega
    have h3 : ¬ 3 + k - 1 - 1 < 1 := by omega
    have h4 : 3 + k - 1 - 1 - 1 = k := by omega
    simp only [Regs.statusWord, BitVec.getLsbD_append, h1, h2, h3, if_false, h4]

/-- Settles O47, by the places of the flags in the status word. -/
theorem readStatusPacksTheFlags : Obligations.ReadStatusPacksTheFlags := by
  intro s
  obtain ⟨hbusy, hdone, hok, hatt⟩ := s.regs.statusWord_getLsbD
  refine ⟨s.regs.statusWord, rfl, Bool.eq_iff_iff.mpr ?_, hdone, hok, hatt⟩
  rw [hbusy, Regs.busy_iff, decide_eq_true_iff]

/-- Settles O32: of the transitions of R127 only VALID and FAIL write DONE, and these end the acquisition. -/
theorem doneMarksTheEndOfAnAcquisition : Obligations.DoneMarksTheEndOfAnAcquisition := by
  intro r i
  rw [Regs.ends_iff]
  obtain ⟨hr, h⟩ | ⟨hr, hc⟩ := r.step_cases i
  · simp [h, hr, Regs.reset]
  · rcases hc with ⟨hs, -, h⟩ | ⟨hs, -, h⟩ | ⟨hs, -, h⟩ | ⟨hs, -, h⟩ | ⟨hs, -, h⟩ | ⟨hs, -, -, h⟩ | ⟨hs, -, -, h⟩ |
      ⟨hs, he, h⟩ | ⟨hs, -, hl, h⟩ | ⟨hs, he, hl, hv, h⟩ | ⟨hs, -, -, hv, h⟩ | ⟨hs, he, hl, hv, h⟩ | ⟨hs, -, h⟩ |
      ⟨hs, -, -, h⟩ | ⟨hs, -, -, h⟩ | ⟨hs, -, h⟩ | ⟨hs, -, h⟩ | ⟨hs | hs, h⟩
    all_goals simp [*]

/-- An idle block without `start`, over any run (R47): it stays idle and keeps all that no line and no tick reaches. -/
theorem Regs.run_of_idle (is : List Inputs) (r : Regs) (hs : r.state = .idle)
    (h : ∀ i ∈ is, i.rst = false ∧ i.start = false) :
    (r.run is).state = .idle ∧ (r.run is).t0 = r.t0 ∧ (r.run is).tstart = r.tstart ∧ (r.run is).tdly = r.tdly ∧
      (r.run is).sr = r.sr ∧ (r.run is).bitcnt = r.bitcnt ∧ (r.run is).att = r.att ∧ (r.run is).pkt = r.pkt ∧
      (r.run is).ok = r.ok := by
  induction is generalizing r with
  | nil => exact ⟨hs, rfl, rfl, rfl, rfl, rfl, rfl, rfl, rfl⟩
  | cons i is ih =>
    obtain ⟨⟨hr, hi⟩, his⟩ := List.forall_mem_cons.mp h
    rw [Regs.run_cons, Regs.step_of_idle hs hr hi]
    exact ih (r.unmoved i) hs his

/-- Settles O19, by the run of an idle block. -/
theorem idleWaitsForStart : Obligations.IdleWaitsForStart := by
  refine ⟨⟨rfl, rfl, rfl⟩, fun is r hs h => ?_⟩
  obtain ⟨hidle, hkept⟩ := Regs.run_of_idle is r hs h
  exact ⟨hidle, Regs.busy_of_idle hidle, hkept⟩

end Sys2Proof.Machine
end

section
/-! SUPPORT. The safe states (Safety.lean), transition by transition. -/

namespace Sys2Proof.Machine

theorem Regs.reset_safe : Regs.reset.Safe :=
  ⟨⟨nofun, nofun⟩, ⟨Nat.zero_le _, Nat.zero_le _⟩, trivial, ⟨fun _ => rfl, nofun, fun _ => ⟨nofun, fun _ => .inl rfl⟩⟩,
    nofun, nofun⟩

/-- Settles O37. -/
theorem resetStateIsSafe : Obligations.ResetStateIsSafe := Regs.reset_safe

/-- A cycle whose arm writes nothing keeps a safe state safe; in SYNC_LO it shows no fall, so the line is still high. -/
theorem Regs.Safe.unmoved {r : Regs} (h : r.Safe) (i : Inputs) (hf : r.state = .syncLo → r.fall = false) :
    (r.unmoved i).Safe := by
  obtain ⟨hcode, hcount, hatt, ⟨hpkt, -, hidle⟩, hhigh, hclear⟩ := h
  have hhigh' : (r.unmoved i).highSeen := fun hs => by
    have hfall := hf hs
    simpa [Regs.fall, hhigh hs] using hfall
  exact ⟨hcode, hcount, hatt, ⟨hpkt, nofun, hidle⟩, hhigh', hclear⟩

/-- Where the next arm begins an attempt, one is left (R33). -/
theorem Regs.Safe.att_lt_four {r : Regs} (h : r.Safe)
    (hs : r.state = .syncLo ∨ r.state = .recoverDelay ∨ r.state = .recoverWaitLow) : r.att.toNat < 4 := by
  obtain ⟨-, -, hatt, -⟩ := h
  rcases hs with hs | hs | hs <;> simp only [Regs.attemptsFit, hs] at hatt
  · simp [hatt]
  · exact hatt.2
  · exact hatt.2

theorem Regs.Safe.one_le_att_of_sample {r : Regs} (h : r.Safe) (hs : r.state = .sample) : 1 ≤ r.att.toNat := by
  obtain ⟨-, -, hatt, -⟩ := h
  simpa only [Regs.attemptsFit, hs] using hatt

theorem Regs.Safe.att_ne_zero_of_sample {r : Regs} (h : r.Safe) (hs : r.state = .sample) : r.att ≠ 0 := by
  intro h0
  have h1 := h.one_le_att_of_sample hs
  simp [h0] at h1

theorem Regs.Safe.att_eq_zero_of_syncHi {r : Regs} (h : r.Safe) (hs : r.state = .syncHi) : r.att = 0 := by
  obtain ⟨-, -, hatt, -⟩ := h
  simpa only [Regs.attemptsFit, hs] using hatt

theorem Regs.Safe.att_eq_zero_of_syncLo {r : Regs} (h : r.Safe) (hs : r.state = .syncLo) : r.att = 0 := by
  obtain ⟨-, -, hatt, -⟩ := h
  simpa only [Regs.attemptsFit, hs] using hatt

theorem Regs.att_eq_four_of_fail {r : Regs} (hv : r.verdict = .fail) : r.att = 4 := by
  obtain ⟨h, -⟩ | ⟨-, -, ha⟩ | ⟨h, -⟩ := r.verdict_cases
  · cases hv.symm.trans h
  · exact ha
  · cases hv.symm.trans h

theorem Regs.att_ne_four_of_retry {r : Regs} (hv : r.verdict = .retry) : r.att ≠ 4 := by
  obtain ⟨h, -⟩ | ⟨h, -⟩ | ⟨-, -, ha⟩ := r.verdict_cases
  · cases hv.symm.trans h
  · cases hv.symm.trans h
  · exact ha

/-- ATT + 1 as a number, while an attempt is left. -/
theorem AttemptCount.succ_toNat_of_lt_four {a : AttemptCount} (h : a.toNat < 4) : (a + 1).toNat = a.toNat + 1 := by
  rw [AttemptCount.succ_toNat]
  omega

/-- BeginAttempt in a safe state with an attempt left (R125). -/
theorem Regs.Safe.beginAttempt {r : Regs} (h : r.Safe) (i : Inputs) (ha : r.att.toNat < 4) :
    (r.beginAttempt (r.unmoved i)).Safe := by
  obtain ⟨-, -, -, ⟨hpkt, -, -⟩, -, -⟩ := h
  have hsucc := AttemptCount.succ_toNat_of_lt_four ha
  refine ⟨⟨nofun, nofun⟩, ⟨?_, Nat.zero_le _⟩, ?_, ⟨hpkt, nofun, nofun⟩, nofun, fun _ => Nat.zero_mod _⟩
  · show (r.att + 1).toNat ≤ 4
    omega
  · show 1 ≤ (r.att + 1).toNat
    omega

/-- SYNC_HI is entered with ATT = 0 (R86, R121). -/
theorem Regs.Safe.toSyncHi {r : Regs} (h : r.Safe) (i : Inputs) :
    ({ r.unmoved i with att := 0, state := .syncHi } : Regs).Safe := by
  obtain ⟨-, ⟨-, hbit⟩, -, ⟨hpkt, -, -⟩, -, -⟩ := h
  exact ⟨⟨nofun, nofun⟩, ⟨Nat.zero_le _, hbit⟩, rfl, ⟨hpkt, nofun, nofun⟩, nofun, nofun⟩

/-- A fall too soon goes back to SYNC_HI, where ATT is 0 as it was (R121). -/
theorem Regs.Safe.rejectGap {r : Regs} (h : r.Safe) (i : Inputs) (hs : r.state = .syncLo) :
    ({ r.unmoved i with state := .syncHi } : Regs).Safe := by
  have hsafe := h.toSyncHi i
  rwa [← h.att_eq_zero_of_syncLo hs] at hsafe

/-- SYNC_LO is entered in a cycle with a rise, so that the line has been seen high (R120). -/
theorem Regs.Safe.toSyncLo {r : Regs} (h : r.Safe) (i : Inputs) (hs : r.state = .syncHi) (hr : r.rise = true) :
    ({ r.unmoved i with t0 := r.ts, state := .syncLo } : Regs).Safe := by
  have ha := h.att_eq_zero_of_syncHi hs
  have hhigh := (r.rise_iff.mp hr).1
  obtain ⟨-, hcount, -, ⟨hpkt, -, -⟩, -, -⟩ := h
  exact ⟨⟨nofun, nofun⟩, hcount, ha, ⟨hpkt, nofun, nofun⟩, fun _ => hhigh, nofun⟩

/-- The end of the pause without a fall (R123). -/
theorem Regs.Safe.toRecoverWaitLow {r : Regs} (h : r.Safe) (i : Inputs) (hs : r.state = .recoverDelay) :
    ({ r.unmoved i with state := .recoverWaitLow } : Regs).Safe := by
  obtain ⟨-, hcount, hatt, ⟨hpkt, -, -⟩, -, -⟩ := h
  have hatt' : 1 ≤ r.att.toNat ∧ r.att.toNat < 4 := by simpa only [Regs.attemptsFit, hs] using hatt
  exact ⟨⟨nofun, nofun⟩, hcount, hatt', ⟨hpkt, nofun, nofun⟩, nofun, nofun⟩

/-- A shift moves the filled places one down: with n samples taken, n + 1 are filled after it (R142). -/
theorem shiftIn_unfilledClear (b : Bool) (sr : Samples) {n : Nat} (hn : n < 28) (h : sr.toNat % 2 ^ (29 - n) = 0) :
    (shiftIn b sr).toNat % 2 ^ (29 - (n + 1)) = 0 := by
  have hpow : 2 ^ (29 - n) = 2 * 2 ^ (29 - (n + 1)) := by rw [← pow_succ']; congr 1; omega
  obtain ⟨m, hm⟩ := Nat.dvd_of_mod_eq_zero h
  have hhalf : sr.toNat / 2 = 2 ^ (29 - (n + 1)) * m := by rw [hm, hpow, mul_assoc, Nat.mul_div_cancel_left _ two_pos]
  rw [shiftIn_toNat, hhalf]
  refine Nat.mod_eq_zero_of_dvd (dvd_add (Dvd.dvd.mul_left (pow_dvd_pow 2 ?_) _) (dvd_mul_right _ _))
  omega

/-- A sample before the 29th is counted, and fills one place more of SR (R142, R143). -/
theorem Regs.Safe.countSample {r : Regs} (h : r.Safe) (i : Inputs) (hs : r.state = .sample) (hl : r.lastSample = false) :
    (r.countSample (r.takeSample (r.unmoved i))).Safe := by
  have ha := h.one_le_att_of_sample hs
  obtain ⟨hcode, ⟨hatt, hbit⟩, hfit, ⟨hpkt, -, hidle⟩, hhigh, hclear⟩ := h
  have hlt : r.bitcnt.toNat < 28 := by
    refine lt_of_le_of_ne hbit fun h28 => ?_
    simp [Regs.lastSample, h28] at hl
  have hsucc : (r.bitcnt + 1).toNat = r.bitcnt.toNat + 1 := by
    rw [BitCount.succ_toNat]
    omega
  refine ⟨hcode, ⟨hatt, ?_⟩, hfit, ⟨hpkt, nofun, hidle⟩, fun h' => ?_, fun _ => ?_⟩
  · show (r.bitcnt + 1).toNat ≤ 28
    omega
  · cases hs.symm.trans h'
  · show (shiftIn r.sampleBit r.sr).toNat % 2 ^ (29 - (r.bitcnt + 1).toNat) = 0
    rw [hsucc]
    exact shiftIn_unfilledClear _ _ hlt (hclear hs)

/-- VALID: a success comes with an attempt (R151). -/
theorem Regs.Safe.commit {r : Regs} (h : r.Safe) (i : Inputs) (hs : r.state = .sample) :
    (r.commit (r.takeSample (r.unmoved i))).Safe := by
  have ha := h.att_ne_zero_of_sample hs
  obtain ⟨-, hcount, -, -, -, -⟩ := h
  exact ⟨⟨nofun, nofun⟩, hcount, trivial, ⟨nofun, fun _ => ⟨rfl, ha⟩, fun _ => ⟨fun _ => ha, nofun⟩⟩, nofun, nofun⟩

/-- RETRY: the verdict leaves an attempt (R152). -/
theorem Regs.Safe.startRecovery {r : Regs} (h : r.Safe) (i : Inputs) (hs : r.state = .sample) (hv : r.verdict = .retry) :
    (r.startRecovery (r.takeSample (r.unmoved i))).Safe := by
  have ha := h.one_le_att_of_sample hs
  obtain ⟨-, ⟨hatt, hbit⟩, -, ⟨hpkt, -, -⟩, -, -⟩ := h
  have hlt : r.att.toNat < 4 := lt_of_le_of_ne hatt fun h4 => Regs.att_ne_four_of_retry hv (BitVec.eq_of_toNat_eq h4)
  exact ⟨⟨nofun, nofun⟩, ⟨hatt, hbit⟩, ⟨ha, hlt⟩, ⟨hpkt, nofun, nofun⟩, nofun, nofun⟩

/-- FAIL: a failure comes after all 4 attempts, with PKT = 0 (R153). -/
theorem Regs.Safe.fail {r : Regs} (h : r.Safe) (i : Inputs) (hs : r.state = .sample) (hv : r.verdict = .fail) :
    (Regs.fail (r.takeSample (r.unmoved i))).Safe := by
  have hne := h.att_ne_zero_of_sample hs
  have hfour := Regs.att_eq_four_of_fail hv
  obtain ⟨-, hcount, -⟩ := h
  exact ⟨⟨nofun, nofun⟩, hcount, trivial,
    ⟨fun _ => rfl, fun _ => ⟨rfl, hne⟩, fun _ => ⟨nofun, fun _ => .inr hfour⟩⟩, nofun, nofun⟩

/-- Every cycle of the block keeps a safe state safe: each transition of R127 does. -/
theorem Regs.Safe.step {r : Regs} (h : r.Safe) (i : Inputs) : (r.step i).Safe := by
  obtain ⟨-, hstep⟩ | ⟨-, hc⟩ := r.step_cases i
  · rw [hstep]
    exact Regs.reset_safe
  · rcases hc with ⟨hs, -, ht⟩ | ⟨-, -, ht⟩ | ⟨hs, -, ht⟩ | ⟨hs, hr, ht⟩ | ⟨-, hf, ht⟩ | ⟨hs, -, -, ht⟩ | ⟨hs, -, -, ht⟩ |
      ⟨hs, -, ht⟩ | ⟨hs, -, hl, ht⟩ | ⟨hs, -, -, -, ht⟩ | ⟨hs, -, -, hv, ht⟩ | ⟨hs, -, -, hv, ht⟩ | ⟨hs, -, ht⟩ |
      ⟨hs, -, -, ht⟩ | ⟨hs, -, -, ht⟩ | ⟨hs, -, ht⟩ | ⟨hs, -, ht⟩ | ⟨hs, ht⟩
    all_goals rw [ht]
    · exact h.unmoved i (by simp [hs])
    · exact h.toSyncHi i
    · exact h.unmoved i (by simp [hs])
    · exact h.toSyncLo i hs hr
    · exact h.unmoved i fun _ => hf
    · exact h.rejectGap i hs
    · exact h.beginAttempt i (h.att_lt_four (.inl hs))
    · exact h.unmoved i (by simp [hs])
    · exact h.countSample i hs hl
    · exact h.commit i hs
    · exact h.startRecovery i hs hv
    · exact h.fail i hs hv
    · exact h.unmoved i (by simp [hs])
    · exact h.toRecoverWaitLow i hs
    · exact h.beginAttempt i (h.att_lt_four (.inr (.inl hs)))
    · exact h.unmoved i (by simp [hs])
    · exact h.beginAttempt i (h.att_lt_four (.inr (.inr hs)))
    · obtain ⟨⟨h6, h7⟩, -⟩ := h
      exact (hs.elim h6 h7).elim

/-- Settles O38: a control operation is one cycle, and a query leaves the registers alone. -/
theorem stepKeepsTheStateSafe : Obligations.StepKeepsTheStateSafe := by
  intro s t hs hstep
  obtain ⟨op, -, hexec⟩ := step_next hstep
  obtain ⟨-, rst, start, h⟩ | ⟨-, v, h⟩ := exec_cases op s.popRequest
  · cases h.symm.trans hexec
    exact Regs.Safe.step hs _
  · cases h.symm.trans hexec
    exact hs

end Sys2Proof.Machine
end

section
/-! SUPPORT. Attempts and recovery pauses of one acquisition (R33, R152, R158). -/

namespace Sys2Proof.Machine

/-- The attempts begun or owed: a recovery pause owes the one that follows it (R152, R158). -/
def Regs.attemptsDue (r : Regs) : Nat :=
  match r.state with
  | .recoverDelay => r.att.toNat + 1
  | .recoverWaitLow => r.att.toNat + 1
  | _ => r.att.toNat

/-- The first attempt has been begun, or the acquisition is over, and no more than 4 attempts are due (R33). -/
def Regs.Attempting (r : Regs) : Prop :=
  (r.state = .sample ∨ r.state = .recoverDelay ∨ r.state = .recoverWaitLow ∨ r.state = .idle) ∧ r.attemptsDue ≤ 4

theorem Regs.attemptsDue_of_recovery {r : Regs} (hs : r.state = .recoverDelay ∨ r.state = .recoverWaitLow) :
    r.attemptsDue = r.att.toNat + 1 := by
  rcases hs with hs | hs <;> simp only [Regs.attemptsDue, hs]

theorem Regs.attemptsDue_of_no_pause {r : Regs} (hs : r.state = .sample ∨ r.state = .idle) :
    r.attemptsDue = r.att.toNat := by
  rcases hs with hs | hs <;> simp only [Regs.attemptsDue, hs]

/-- The cycle begins a recovery pause (R152). -/
abbrev Regs.beginsPause (r : Regs) (i : Inputs) : Prop :=
  r.state = .sample ∧ (r.step i).state = .recoverDelay

theorem Regs.pausesBegun_cons (r : Regs) (i : Inputs) (is : List Inputs) :
    r.pausesBegun (i :: is) = (if r.beginsPause i then 1 else 0) + (r.step i).pausesBegun is := rfl

/-- The attempt a pause owes is the one begun after it (R125). -/
theorem Regs.attemptsDue_beginAttempt {r : Regs} (w : Regs) (hs : r.state = .recoverDelay ∨ r.state = .recoverWaitLow)
    (h : r.attemptsDue ≤ 4) : (r.beginAttempt w).attemptsDue = r.attemptsDue := by
  rw [Regs.attemptsDue_of_recovery hs] at h ⊢
  exact AttemptCount.succ_toNat_of_lt_four h

/-- The cycle makes one attempt more due if it begins a pause, and none otherwise, and no fifth. -/
def Regs.StepCountsPause (r : Regs) (i : Inputs) : Prop :=
  (r.step i).Attempting ∧ (r.step i).attemptsDue = r.attemptsDue + if r.beginsPause i then 1 else 0

/-- A cycle that begins no pause and leaves the attempts due as they were, in a state of an acquisition or IDLE. -/
theorem Regs.Attempting.step_of_not_beginsPause {r : Regs} (h : r.Attempting) {i : Inputs} (hp : ¬r.beginsPause i)
    (hs : (r.step i).state = .sample ∨ (r.step i).state = .recoverDelay ∨ (r.step i).state = .recoverWaitLow ∨
      (r.step i).state = .idle)
    (hdue : (r.step i).attemptsDue = r.attemptsDue) :
    r.StepCountsPause i :=
  ⟨⟨hs, hdue.trans_le h.2⟩, by rw [if_neg hp, hdue, Nat.add_zero]⟩

/-- RETRY makes one attempt more due, which is not the fifth (R150, R152). -/
theorem Regs.Attempting.step_of_retry {r : Regs} (h : r.Attempting) {i : Inputs} (hs : r.state = .sample)
    (hv : r.verdict = .retry) (ht : r.step i = r.startRecovery (r.takeSample (r.unmoved i))) :
    r.StepCountsPause i := by
  have hp : r.beginsPause i := ⟨hs, by rw [ht]; rfl⟩
  have hdue : (r.step i).attemptsDue = r.attemptsDue + 1 := by
    rw [ht, Regs.attemptsDue_of_no_pause (.inl hs)]
    rfl
  have hle := h.2
  have hne : r.attemptsDue ≠ 4 := by
    rw [Regs.attemptsDue_of_no_pause (.inl hs)]
    exact fun h4 => Regs.att_ne_four_of_retry hv (BitVec.eq_of_toNat_eq h4)
  exact ⟨⟨.inr (.inl (by rw [ht]; rfl)), by omega⟩, by rw [if_pos hp, hdue]⟩

theorem Regs.Attempting.step_of_unmoved {r : Regs} (h : r.Attempting) {i : Inputs} (ht : r.step i = r.unmoved i) :
    r.StepCountsPause i := by
  refine h.step_of_not_beginsPause (fun ⟨hs, hs'⟩ => ?_) ?_ ?_
  · rw [ht] at hs'
    cases hs.symm.trans hs'
  · rw [ht]
    exact h.1
  · rw [ht]
    rfl

theorem Regs.Attempting.step_of_beginAttempt {r : Regs} (h : r.Attempting) {i : Inputs}
    (hs : r.state = .recoverDelay ∨ r.state = .recoverWaitLow) (ht : r.step i = r.beginAttempt (r.unmoved i)) :
    r.StepCountsPause i := by
  refine h.step_of_not_beginsPause ?_ (.inl ?_) ?_
  · simp [Regs.beginsPause, ht]
  · rw [ht, Regs.beginAttempt_state]
  · rw [ht, Regs.attemptsDue_beginAttempt _ hs h.2]

/-- In SAMPLE a rise before the 29th is counted, and VALID and FAIL end the acquisition, with ATT as it was (R143, R151,
R153). -/
theorem Regs.Attempting.step_of_att_eq {r : Regs} (h : r.Attempting) {i : Inputs} (hs : r.state = .sample)
    (hs' : (r.step i).state = .sample ∨ (r.step i).state = .idle) (hatt : (r.step i).att = r.att) :
    r.StepCountsPause i := by
  refine h.step_of_not_beginsPause ?_ (hs'.imp_right fun h' => .inr (.inr h')) ?_
  · rcases hs' with h' | h' <;> simp [Regs.beginsPause, h']
  · rw [Regs.attemptsDue_of_no_pause hs', Regs.attemptsDue_of_no_pause (.inl hs), hatt]

/-- Without reset and `start` every transition of R127 from SAMPLE, the recovery and IDLE counts so. -/
theorem Regs.Attempting.step {r : Regs} (h : r.Attempting) {i : Inputs} (hr : i.rst = false) (hi : i.start = false) :
    r.StepCountsPause i := by
  have hc := r.step_cases i
  obtain ⟨hs | hs | hs | hs, -⟩ := id h <;>
    simp only [hr, hi, hs, reduceCtorEq, Bool.false_eq_true, false_and, true_and, or_false, false_or, or_self] at hc
  case inl =>
    obtain ⟨-, ht⟩ | ⟨-, -, ht⟩ | ⟨-, -, -, ht⟩ | ⟨-, -, hv, ht⟩ | ⟨-, -, -, ht⟩ := hc
    · exact h.step_of_unmoved ht
    · exact h.step_of_att_eq hs (.inl (by simp [ht, hs])) (by simp [ht])
    · exact h.step_of_att_eq hs (.inr (by simp [ht])) (by simp [ht])
    · exact h.step_of_retry hs hv ht
    · exact h.step_of_att_eq hs (.inr (by simp [ht])) (by simp [ht])
  case inr.inl =>
    obtain ⟨-, ht⟩ | ⟨-, -, ht⟩ | ⟨-, -, ht⟩ := hc
    · exact h.step_of_unmoved ht
    · refine h.step_of_not_beginsPause ?_ (.inr (.inr (.inl ?_))) ?_
      · simp [Regs.beginsPause, ht]
      · rw [ht]
      · rw [ht, Regs.attemptsDue_of_recovery (.inl hs)]
        rfl
    · exact h.step_of_beginAttempt (.inl hs) ht
  case inr.inr.inl =>
    obtain ⟨-, ht⟩ | ⟨-, ht⟩ := hc
    · exact h.step_of_unmoved ht
    · exact h.step_of_beginAttempt (.inr hs) ht
  case inr.inr.inr => exact h.step_of_unmoved hc

/-- Over a run without reset and `start`, the attempts due grow by the pauses begun. -/
theorem Regs.Attempting.run {r : Regs} (h : r.Attempting) (is : List Inputs)
    (his : ∀ i ∈ is, i.rst = false ∧ i.start = false) :
    (r.run is).Attempting ∧ (r.run is).attemptsDue = r.attemptsDue + r.pausesBegun is := by
  induction is generalizing r with
  | nil => exact ⟨h, rfl⟩
  | cons i is ih =>
    obtain ⟨⟨hr, hi⟩, his⟩ := List.forall_mem_cons.mp his
    obtain ⟨hstep, hdue⟩ := h.step hr hi
    obtain ⟨hrun, hrunDue⟩ := ih hstep his
    rw [Regs.run_cons, Regs.pausesBegun_cons, ← Nat.add_assoc, ← hdue]
    exact ⟨hrun, hrunDue⟩

/-- Settles O36: at first one attempt is due, at the end ATT, and never more than 4. -/
theorem attemptsCountThePauses : Obligations.AttemptsCountThePauses := by
  intro is r hs ha his hend
  have hone : r.attemptsDue = 1 := by rw [Regs.attemptsDue_of_no_pause (.inl hs), ha]; rfl
  obtain ⟨⟨-, hmax⟩, hdue⟩ := Regs.Attempting.run ⟨.inl hs, by omega⟩ is his
  rw [Regs.attemptsDue_of_no_pause (.inr hend)] at hmax hdue
  omega

end Sys2Proof.Machine
end

section
/-! SUPPORT. The reads of the output ports, which change no register (R55). -/

namespace Sys2Proof.Machine

/-- A query reads the registers, which an earlier read left as they were, and overwrites what that read gave (R55). -/
theorem exec_readPort_of_isQuery {i : Instr} (h : i.isQuery = true) (s : State) (v : PortValue) :
    exec i (s.readPort v) = exec i s := by
  cases i with
  | nop => cases h
  | acquire => cases h
  | reset start => cases h
  | readPacket => rfl
  | digitsBcd => rfl
  | isNegative => rfl
  | isMetric => rfl
  | isInch => rfl
  | isHalf => rfl
  | readStatus => rfl

/-- Settles O48: a query is one read of a port, and the same query after a read answers as before it. -/
theorem queriesHaveNoSideEffect : Obligations.QueriesHaveNoSideEffect := by
  intro i s hq
  obtain ⟨hctl, -⟩ | ⟨-, v, hv⟩ := exec_cases i s
  · cases hq.symm.trans hctl
  · refine ⟨v, hv, fun t u ht hu => ?_⟩
    cases hv.symm.trans ht
    rw [exec_readPort_of_isQuery hq, hv] at hu
    cases hu
    rfl

end Sys2Proof.Machine
end

section
/-! SUPPORT. The bits of one attempt on their way into SR and PKT (R51, R142, R146). -/

namespace Sys2Proof.Machine

/-! The shift over many samples. -/

/-- SR after the given samples, the first one taken first (R142). -/
def shiftInAll (bs : List Bool) (sr : Samples) : Samples := bs.foldl (fun sr b => shiftIn b sr) sr

@[simp] theorem shiftInAll_nil (sr : Samples) : shiftInAll [] sr = sr := rfl

@[simp] theorem shiftInAll_cons (b : Bool) (bs : List Bool) (sr : Samples) :
    shiftInAll (b :: bs) sr = shiftInAll bs (shiftIn b sr) := rfl

theorem shiftInAll_concat (bs : List Bool) (b : Bool) (sr : Samples) :
    shiftInAll (bs ++ [b]) sr = shiftIn b (shiftInAll bs sr) :=
  List.foldl_concat ..

/-- Up to 29 samples stand in the top places of SR in order of arrival, the last one in bit 28. -/
theorem shiftInAll_getLsbD (bs : List Bool) (sr : Samples) (hlen : bs.length ≤ 29) {j : Nat} (hj : j < bs.length) :
    bs[j]? = some ((shiftInAll bs sr).getLsbD (29 - bs.length + j)) := by
  induction bs using List.reverseRecOn generalizing j with
  | nil => cases hj
  | append_singleton bs b ih =>
    rw [List.length_append, List.length_singleton] at hlen hj ⊢
    rw [shiftInAll_concat, shiftIn_getLsbD]
    obtain hlt | rfl := Nat.lt_succ_iff_lt_or_eq.mp hj
    · have hplace : 29 - (bs.length + 1) + j + 1 = 29 - bs.length + j := by omega
      rw [if_neg (by omega), hplace, List.getElem?_append_left hlt]
      exact ih (by omega) hlt
    · rw [if_pos (by omega), List.getElem?_concat_length]

/-! The cycles of SAMPLE (R122). -/

theorem Regs.samplesTaken_cons_of_rise {r : Regs} (h : r.rise = true) (i : Inputs) (is : List Inputs) :
    r.samplesTaken (i :: is) = r.sampleBit :: (r.step i).samplesTaken is := if_pos h

theorem Regs.samplesTaken_cons_of_not_rise {r : Regs} (h : r.rise = false) (i : Inputs) (is : List Inputs) :
    r.samplesTaken (i :: is) = (r.step i).samplesTaken is := if_neg (Bool.eq_false_iff.mp h)

theorem Regs.step_of_sample_not_rise {r : Regs} {i : Inputs} (hs : r.state = .sample) (hr : i.rst = false)
    (h : r.rise = false) : r.step i = r.unmoved i := by
  simp [Regs.step, Regs.arm, Regs.sampleArm, Regs.everyCycle_eq_unmoved, hs, hr, h]

theorem Regs.step_of_sample_rise {r : Regs} {i : Inputs} (hs : r.state = .sample) (hr : i.rst = false)
    (h : r.rise = true) (hl : r.lastSample = false) :
    r.step i = r.countSample (r.takeSample (r.unmoved i)) := by
  simp [Regs.step, Regs.arm, Regs.sampleArm, Regs.everyCycle_eq_unmoved, hs, hr, h, hl]

theorem Regs.step_of_sample_valid {r : Regs} {i : Inputs} (hs : r.state = .sample) (hr : i.rst = false)
    (h : r.rise = true) (hl : r.lastSample = true) (hv : r.verdict = .valid) :
    r.step i = r.commit (r.takeSample (r.unmoved i)) := by
  simp [Regs.step, Regs.arm, Regs.sampleArm, Regs.judge, Regs.everyCycle_eq_unmoved, hs, hr, h, hl, hv]

theorem Regs.verdict_eq_valid {r : Regs} (h : (r.ts - r.tstart).toNat < 900) : r.verdict = .valid := if_pos h

/-- No sample before the 29th is taken for the last (R144). -/
theorem Regs.not_lastSample_of_lt {r : Regs} (h : r.bitcnt.toNat < 28) : r.lastSample = false :=
  beq_false_of_ne (ne_of_lt h)

/-- `q` is `r`, both in the same attempt, after the samples `bs`: BITCNT counts them and SR has shifted them in. -/
def Regs.SampledOn (r q : Regs) (bs : List Bool) : Prop :=
  q.state = .sample ∧ q.bitcnt.toNat = r.bitcnt.toNat + bs.length ∧ q.sr = shiftInAll bs r.sr ∧
    q.tstart = r.tstart ∧ q.att = r.att

/-- Up to the 28th rise an attempt only takes samples (R142, R143). -/
theorem Regs.sampledOn_run (is : List Inputs) (r : Regs) (hs : r.state = .sample) (hr : ∀ i ∈ is, i.rst = false)
    (hlen : r.bitcnt.toNat + (r.samplesTaken is).length ≤ 28) :
    r.SampledOn (r.run is) (r.samplesTaken is) := by
  induction is generalizing r with
  | nil => exact ⟨hs, rfl, rfl, rfl, rfl⟩
  | cons i is ih =>
    obtain ⟨hi, his⟩ := List.forall_mem_cons.mp hr
    rw [Regs.run_cons]
    cases hrise : r.rise with
    | false =>
      rw [Regs.samplesTaken_cons_of_not_rise hrise, Regs.step_of_sample_not_rise hs hi hrise] at hlen ⊢
      exact ih (r.unmoved i) hs his hlen
    | true =>
      rw [Regs.samplesTaken_cons_of_rise hrise, List.length_cons] at hlen
      have hstep := Regs.step_of_sample_rise hs hi hrise (Regs.not_lastSample_of_lt (by omega))
      have hbit : (r.bitcnt + 1).toNat = r.bitcnt.toNat + 1 := by
        rw [BitCount.succ_toNat]
        omega
      rw [hstep] at hlen
      rw [Regs.samplesTaken_cons_of_rise hrise, hstep]
      obtain ⟨hs', hb, hsr, hts, hatt⟩ := ih (r.countSample (r.takeSample (r.unmoved i))) hs his (by
        rw [Regs.countSample_bitcnt, hbit]
        omega)
      rw [Regs.countSample_bitcnt, hbit] at hb
      exact ⟨hs', by rw [hb, List.length_cons]; omega, hsr, hts, hatt⟩

/-- Settles O39: the 28 samples stand in SR from bit 1 up, and the last cycle commits these bits. -/
theorem sampledBitsFillThePacketInOrder : Obligations.SampledBitsFillThePacketInOrder := by
  intro is last r hs hb hr hlast hlen hrise htime
  have hb0 : r.bitcnt.toNat = 0 := by rw [hb]; rfl
  obtain ⟨hs', hb', hsr, hts, hatt⟩ := Regs.sampledOn_run is r hs hr (by omega)
  have hlastSample : (r.run is).lastSample = true :=
    (Regs.lastSample_iff _).mpr (BitVec.eq_of_toNat_eq (hb'.trans (by rw [hb0, hlen]; rfl)))
  rw [← hts] at htime
  rw [Regs.run_append, Regs.run_cons, Regs.run_nil,
    Regs.step_of_sample_valid hs' hlast hrise hlastSample (Regs.verdict_eq_valid htime)]
  refine ⟨rfl, rfl, rfl, hatt, fun k hk => ?_⟩
  rw [Regs.commit_pkt, Regs.cand_getLsbD _ k hk, hsr, Nat.add_comm k 1,
    shiftInAll_getLsbD _ r.sr (by omega) (hlen.symm ▸ hk), hlen]

end Sys2Proof.Machine
end

section
/-! SUPPORT. The encodings (R70, R71): the host's words and the operations they name, and the host's control word. -/

namespace Sys2Proof

theorem decode_encode (i : Instr) : decode (encode i) = .ok i := by
  cases i with
  | reset start => cases start <;> rfl
  | _ => rfl

/-- The control operations are written as HOSTCTL itself (R70). -/
theorem encode_ofHostctl (c : BitVec 2) : encode (Instr.ofHostctl c) = ⟨8, c.toNat⟩ := by
  revert c
  decide

theorem decode_hostctl (c : BitVec 2) : decode ⟨8, c.toNat⟩ = .ok (Instr.ofHostctl c) := by
  rw [← encode_ofHostctl, decode_encode]

/-- A word that names an operation has one of the table's sizes, and its size selects the decoder of its bits. -/
theorem decode_ok_cases {w : HostWord} {i : Instr} (h : decode w = .ok i) :
    (w.nbits = 8 ∧ decodeByte w.bits = .ok i) ∨ (w.nbits = 24 ∧ decodeTriple w.bits = .ok i) ∨
      (w.nbits = 32 ∧ decodeQuad w.bits = .ok i) := by
  obtain ⟨hsize, hfit⟩ := Bool.and_eq_true_iff.mp (decode_ok_wellFormed h)
  have hw : w.nbits = 8 ∨ w.nbits = 24 ∨ w.nbits = 32 := by simpa [HostWord.sizeOk, or_assoc] using hsize
  unfold decode at h
  rw [if_neg (by simp [hsize]), if_neg (by simp [hfit])] at h
  obtain h8 | h24 | h32 := hw
  · exact .inl ⟨h8, by simpa [h8] using h⟩
  · exact .inr (.inl ⟨h24, by simpa [h24] using h⟩)
  · exact .inr (.inr ⟨h32, by simpa [h32] using h⟩)

theorem encode_of_decodeByte_ok {b : Nat} {i : Instr} (h : decodeByte b = .ok i) : encode i = ⟨8, b⟩ := by
  obtain ⟨rfl, rfl⟩ | ⟨hb, rfl⟩ := decodeByte_ok h
  · rfl
  · rw [encode_ofHostctl, BitVec.toNat_ofNat, Nat.mod_eq_of_lt hb]

theorem encode_of_decodeTriple_ok {b : Nat} {i : Instr} (h : decodeTriple b = .ok i) : encode i = ⟨24, b⟩ := by
  unfold decodeTriple at h
  split_ifs at h with hb
  cases h
  exact hb ▸ rfl

theorem encode_of_decodeQuad_ok {b : Nat} {i : Instr} (h : decodeQuad b = .ok i) : encode i = ⟨32, b⟩ := by
  unfold decodeQuad at h
  split_ifs at h with hb hb hb hb hb
  all_goals
    cases h
    exact hb ▸ rfl

/-- A word that names an operation is the word the encoder writes for it. -/
theorem encode_of_decode_ok {w : HostWord} {i : Instr} (h : decode w = .ok i) : encode i = w := by
  obtain ⟨nbits, bits⟩ := w
  obtain ⟨rfl, hb⟩ | ⟨rfl, hb⟩ | ⟨rfl, hb⟩ := decode_ok_cases h
  · exact encode_of_decodeByte_ok hb
  · exact encode_of_decodeTriple_ok hb
  · exact encode_of_decodeQuad_ok hb

/-- Settles O1: `encode` is a two-sided inverse of `decode` on the words that name an operation. -/
theorem wordsAndOperationsCorrespond : Obligations.WordsAndOperationsCorrespond := by
  refine fun w i => ⟨fun h => (encode_of_decode_ok h).symm, ?_⟩
  rintro rfl
  exact decode_encode i

/-- Settles O3: each word written out is the encoder's word of its operation. -/
theorem writtenOutWordsDecode : Obligations.WrittenOutWordsDecode :=
  ⟨decode_encode .nop, decode_encode .acquire, decode_encode (.reset false), decode_encode .isNegative,
    decode_encode .isHalf, decode_encode .isMetric, decode_hostctl⟩

end Sys2Proof

namespace Sys2Proof.Machine

/-- Only the arm of IDLE reads `start` (R86, R90). -/
theorem Regs.arm_start_of_ne_idle {r : Regs} (h : r.state ≠ .idle) (i : Inputs) (start : Bool) (w : Regs) :
    r.arm { i with start := start } w = r.arm i w := by
  unfold Regs.arm
  cases hs : r.state with
  | idle => exact absurd hs h
  | _ => rfl

theorem Regs.step_start_of_ne_idle {r : Regs} (h : r.state ≠ .idle) (i : Inputs) (start : Bool) :
    r.step { i with start := start } = r.step i := by
  unfold Regs.step
  rw [Regs.arm_start_of_ne_idle h]
  rfl

/-- In a cycle of a block that is not in IDLE, `start` makes no difference (R90). -/
theorem State.cycle_start_of_ne_idle {s : State} (h : s.regs.state ≠ .idle) (rst start : Bool) :
    s.cycle rst start = s.cycle rst false := by
  unfold State.cycle
  rw [← Regs.step_start_of_ne_idle h (s.cycleInputs rst false) start]
  rfl

/-- Outside IDLE, ACQUIRE is NOP (R70, R90). -/
theorem exec_acquire_of_ne_idle {s : State} (h : s.regs.state ≠ .idle) : exec .acquire s = exec .nop s :=
  congrArg Host.Outcome.next (State.cycle_start_of_ne_idle h false true)

/-- Settles O2: the four selections by definition, and ACQUIRE outside IDLE because no other state reads `start`. -/
theorem hostctlSelectsTheOperation : Obligations.HostctlSelectsTheOperation :=
  ⟨rfl, rfl, rfl, rfl, fun _ => exec_acquire_of_ne_idle⟩

/-- The arm of the unused codes of STATE writes STATE and nothing else (R73). -/
theorem Regs.step_of_unused {r : Regs} {i : Inputs} (hs : r.state = .unused6 ∨ r.state = .unused7) (hr : i.rst = false) :
    r.step i = { r.unmoved i with state := .idle } := by
  obtain hs | hs := hs <;> simp [Regs.step, Regs.arm, Regs.unusedArm, Regs.everyCycle_eq_unmoved, hs, hr]

/-- Settles O28: the writes of the step are those of a quiet cycle and STATE. -/
theorem unusedCodesGoToIdle : Obligations.UnusedCodesGoToIdle := by
  intro r i hr hs
  rw [Regs.step_of_unused hs hr]
  exact ⟨rfl, rfl, rfl, rfl⟩

end Sys2Proof.Machine
end

section
/-! SUPPORT. What the block still reads of its own past (R92, R105): alike states stay alike, arm by arm of the FSM. -/

namespace Sys2Proof.Machine

/-- `r` with the registers that a phase, an attempt or an acquisition leaves behind taken from `o`: the timestamps T0, TSTART
and TDLY, the sampler's SR and BITCNT, and the result PKT and OK. -/
def Regs.withLeftovers (r o : Regs) : Regs :=
  { r with t0 := o.t0, tstart := o.tstart, tdly := o.tdly, sr := o.sr, bitcnt := o.bitcnt, pkt := o.pkt, ok := o.ok }

/-- Alike states differ in leftovers only. -/
theorem Regs.SameAhead.eq_withLeftovers {r q : Regs} (h : r.SameAhead q) : ∃ o, q = r.withLeftovers o := by
  obtain ⟨hstate, hatt, hdone, hcs1, hcs2, hcs3, hds1, hds2, hts, -⟩ := h
  refine ⟨q, ?_⟩
  simp only [Regs.withLeftovers, ← hstate, ← hatt, ← hdone, ← hcs1, ← hcs2, ← hcs3, ← hds1, ← hds2, ← hts]

/-- The leftovers in which alike states agree, by what their STATE and DONE still call for. -/
theorem Regs.SameAhead.reads {r q : Regs} (h : r.SameAhead q) :
    (r.state = .syncLo → q.t0 = r.t0) ∧
      (r.state = .sample → q.tstart = r.tstart ∧ q.sr = r.sr ∧ q.bitcnt = r.bitcnt) ∧
      (r.state = .recoverDelay → q.tdly = r.tdly) ∧ (r.done = true → q.pkt = r.pkt ∧ q.ok = r.ok) := by
  obtain ⟨-, -, -, -, -, -, -, -, -, hreads⟩ := h
  exact hreads

/-- States that differ in leftovers only are alike if they agree in those still read. -/
theorem Regs.SameAhead.of_withLeftovers {r q : Regs} (h : q = r.withLeftovers q) (ht0 : r.state = .syncLo → q.t0 = r.t0)
    (hsample : r.state = .sample → q.tstart = r.tstart ∧ q.sr = r.sr ∧ q.bitcnt = r.bitcnt)
    (htdly : r.state = .recoverDelay → q.tdly = r.tdly) (hresult : r.done = true → q.pkt = r.pkt ∧ q.ok = r.ok) :
    r.SameAhead q := by
  rw [h]
  exact ⟨rfl, rfl, rfl, rfl, rfl, rfl, rfl, rfl, rfl, ht0, hsample, htdly, hresult⟩

theorem Regs.SameAhead.refl (r : Regs) : r.SameAhead r :=
  .of_withLeftovers rfl (fun _ => rfl) (fun _ => ⟨rfl, rfl, rfl⟩) (fun _ => rfl) fun _ => ⟨rfl, rfl⟩

/-! The tests of the control unit, each in the state whose arm makes it. -/

theorem Regs.SameAhead.state_eq {r q : Regs} (h : r.SameAhead q) : q.state = r.state := by
  obtain ⟨o, rfl⟩ := h.eq_withLeftovers
  rfl

theorem Regs.SameAhead.att_eq {r q : Regs} (h : r.SameAhead q) : q.att = r.att := by
  obtain ⟨o, rfl⟩ := h.eq_withLeftovers
  rfl

theorem Regs.SameAhead.rise_eq {r q : Regs} (h : r.SameAhead q) : q.rise = r.rise := by
  obtain ⟨o, rfl⟩ := h.eq_withLeftovers
  rfl

theorem Regs.SameAhead.fall_eq {r q : Regs} (h : r.SameAhead q) : q.fall = r.fall := by
  obtain ⟨o, rfl⟩ := h.eq_withLeftovers
  rfl

theorem Regs.SameAhead.ts_eq {r q : Regs} (h : r.SameAhead q) : q.ts = r.ts := by
  obtain ⟨o, rfl⟩ := h.eq_withLeftovers
  rfl

theorem Regs.SameAhead.sampleBit_eq {r q : Regs} (h : r.SameAhead q) : q.sampleBit = r.sampleBit := by
  obtain ⟨o, rfl⟩ := h.eq_withLeftovers
  rfl

theorem Regs.SameAhead.gapOk_eq {r q : Regs} (h : r.SameAhead q) (hs : r.state = .syncLo) : q.gapOk = r.gapOk := by
  rw [Regs.gapOk, Regs.since, h.ts_eq, h.reads.1 hs]
  rfl

theorem Regs.SameAhead.pauseOver_eq {r q : Regs} (h : r.SameAhead q) (hs : r.state = .recoverDelay) :
    q.pauseOver = r.pauseOver := by
  obtain ⟨-, -, htdly, -⟩ := h.reads
  rw [Regs.pauseOver, Regs.since, h.ts_eq, htdly hs]
  rfl

theorem Regs.SameAhead.bitcnt_eq {r q : Regs} (h : r.SameAhead q) (hs : r.state = .sample) : q.bitcnt = r.bitcnt := by
  obtain ⟨-, hsample, -⟩ := h.reads
  obtain ⟨-, -, hbitcnt⟩ := hsample hs
  exact hbitcnt

theorem Regs.SameAhead.lastSample_eq {r q : Regs} (h : r.SameAhead q) (hs : r.state = .sample) :
    q.lastSample = r.lastSample := by
  rw [Regs.lastSample, h.bitcnt_eq hs]
  rfl

theorem Regs.SameAhead.verdict_eq {r q : Regs} (h : r.SameAhead q) (hs : r.state = .sample) : q.verdict = r.verdict := by
  obtain ⟨-, hsample, -⟩ := h.reads
  obtain ⟨htstart, -⟩ := hsample hs
  rw [Regs.verdict, Regs.elapsed, Regs.since, Regs.budgetSpent, h.ts_eq, htstart, h.att_eq]
  rfl

theorem Regs.SameAhead.srNext_eq {r q : Regs} (h : r.SameAhead q) (hs : r.state = .sample) : q.srNext = r.srNext := by
  obtain ⟨-, hsample, -⟩ := h.reads
  obtain ⟨-, hsr, -⟩ := hsample hs
  rw [Regs.srNext, h.sampleBit_eq, hsr]
  rfl

/-! The writes of the state arms, `r` and `q` being the states read and `w` and `x` what is scheduled so far. -/

/-- STATE stays, so that the same leftovers are read, and DONE falls. -/
theorem Regs.SameAhead.unmoved {r q : Regs} (h : r.SameAhead q) (i : Inputs) :
    (r.unmoved i).SameAhead (q.unmoved i) := by
  obtain ⟨ht0, hsample, htdly, -⟩ := h.reads
  obtain ⟨o, rfl⟩ := h.eq_withLeftovers
  exact .of_withLeftovers rfl ht0 hsample htdly nofun

/-- A move to a state whose arm reads no leftover, with or without a write of ATT. -/
theorem Regs.SameAhead.moveTo {w x : Regs} (hw : w.SameAhead x) {c : FsmState} {a b : AttemptCount}
    (hc : c ≠ .syncLo ∧ c ≠ .sample ∧ c ≠ .recoverDelay) (hab : b = a) :
    Regs.SameAhead { w with att := a, state := c } { x with att := b, state := c } := by
  obtain ⟨hlo, hsample, hdelay⟩ := hc
  obtain ⟨-, -, -, hresult⟩ := hw.reads
  obtain ⟨o, rfl⟩ := hw.eq_withLeftovers
  rw [hab]
  exact .of_withLeftovers rfl (absurd · hlo) (absurd · hsample) (absurd · hdelay) hresult

/-- T0 is written on the way to SYNC_LO, which reads it (R120). -/
theorem Regs.SameAhead.toSyncLo {r q w x : Regs} (h : r.SameAhead q) (hw : w.SameAhead x) :
    Regs.SameAhead { w with t0 := r.ts, state := .syncLo } { x with t0 := q.ts, state := .syncLo } := by
  obtain ⟨-, -, -, hresult⟩ := hw.reads
  obtain ⟨o, rfl⟩ := hw.eq_withLeftovers
  exact .of_withLeftovers rfl (fun _ => h.ts_eq) nofun nofun hresult

/-- TSTART, SR and BITCNT are written on the way to SAMPLE, which reads them (R125). -/
theorem Regs.SameAhead.beginAttempt {r q w x : Regs} (h : r.SameAhead q) (hw : w.SameAhead x) :
    (r.beginAttempt w).SameAhead (q.beginAttempt x) := by
  obtain ⟨-, -, -, hresult⟩ := hw.reads
  obtain ⟨o, rfl⟩ := hw.eq_withLeftovers
  refine .of_withLeftovers ?_ nofun (fun _ => ⟨h.ts_eq, rfl, rfl⟩) nofun hresult
  rw [Regs.beginAttempt, h.att_eq]
  rfl

/-- The shift reads SR and the sampled bit (R142). -/
theorem Regs.SameAhead.takeSample {r q w x : Regs} (h : r.SameAhead q) (hs : r.state = .sample) (hw : w.SameAhead x) :
    (r.takeSample w).SameAhead (q.takeSample x) := by
  obtain ⟨ht0, hsample, htdly, hresult⟩ := hw.reads
  obtain ⟨o, rfl⟩ := hw.eq_withLeftovers
  refine .of_withLeftovers rfl ht0 (fun hws => ?_) htdly hresult
  obtain ⟨htstart, -, hbitcnt⟩ := hsample hws
  exact ⟨htstart, h.srNext_eq hs, hbitcnt⟩

/-- The count reads BITCNT (R143). -/
theorem Regs.SameAhead.countSample {r q w x : Regs} (h : r.SameAhead q) (hs : r.state = .sample) (hw : w.SameAhead x) :
    (r.countSample w).SameAhead (q.countSample x) := by
  obtain ⟨ht0, hsample, htdly, hresult⟩ := hw.reads
  obtain ⟨o, rfl⟩ := hw.eq_withLeftovers
  refine .of_withLeftovers rfl ht0 (fun hws => ?_) htdly hresult
  obtain ⟨htstart, hsr, -⟩ := hsample hws
  exact ⟨htstart, hsr, congrArg (· + 1) (h.bitcnt_eq hs)⟩

/-- The result is written from the samples alone, or is the sentinel (R151, R153); RETRY writes TDLY on the way to
RECOVER_DELAY, which reads it (R152). -/
theorem Regs.SameAhead.judge {r q w x : Regs} (h : r.SameAhead q) (hs : r.state = .sample) (hw : w.SameAhead x) :
    (r.judge w).SameAhead (q.judge x) := by
  have hcand : q.cand = r.cand := congrArg (BitVec.extractLsb' 0 Config.packetBits) (h.srNext_eq hs)
  obtain ⟨-, -, -, hresult⟩ := hw.reads
  obtain ⟨o, rfl⟩ := hw.eq_withLeftovers
  rw [Regs.judge, Regs.judge, h.verdict_eq hs]
  cases r.verdict with
  | valid => exact .of_withLeftovers rfl nofun nofun nofun fun _ => ⟨hcand, rfl⟩
  | retry => exact .of_withLeftovers rfl nofun nofun (fun _ => h.ts_eq) hresult
  | fail => exact .of_withLeftovers rfl nofun nofun nofun fun _ => ⟨rfl, rfl⟩

/-! The state arms (R115). -/

theorem Regs.SameAhead.idleArm {w x : Regs} (hw : w.SameAhead x) (i : Inputs) :
    (Regs.idleArm i w).SameAhead (Regs.idleArm i x) := by
  unfold Regs.idleArm
  split
  · exact hw.moveTo ⟨nofun, nofun, nofun⟩ rfl
  · exact hw

theorem Regs.SameAhead.syncHiArm {r q w x : Regs} (h : r.SameAhead q) (hw : w.SameAhead x) :
    (r.syncHiArm w).SameAhead (q.syncHiArm x) := by
  unfold Regs.syncHiArm
  rw [h.rise_eq]
  split
  · exact h.toSyncLo hw
  · exact hw

theorem Regs.SameAhead.syncLoArm {r q w x : Regs} (h : r.SameAhead q) (hs : r.state = .syncLo) (hw : w.SameAhead x) :
    (r.syncLoArm w).SameAhead (q.syncLoArm x) := by
  unfold Regs.syncLoArm
  rw [h.fall_eq, h.gapOk_eq hs]
  split
  · split
    · exact h.beginAttempt hw
    · exact hw.moveTo ⟨nofun, nofun, nofun⟩ hw.att_eq
  · exact hw

theorem Regs.SameAhead.sampleArm {r q w x : Regs} (h : r.SameAhead q) (hs : r.state = .sample) (hw : w.SameAhead x) :
    (r.sampleArm w).SameAhead (q.sampleArm x) := by
  unfold Regs.sampleArm
  rw [h.rise_eq, h.lastSample_eq hs]
  split
  · split
    · exact h.judge hs (h.takeSample hs hw)
    · exact h.countSample hs (h.takeSample hs hw)
  · exact hw

theorem Regs.SameAhead.recoverDelayArm {r q w x : Regs} (h : r.SameAhead q) (hs : r.state = .recoverDelay)
    (hw : w.SameAhead x) : (r.recoverDelayArm w).SameAhead (q.recoverDelayArm x) := by
  unfold Regs.recoverDelayArm
  rw [h.pauseOver_eq hs, h.fall_eq]
  split
  · split
    · exact h.beginAttempt hw
    · exact hw.moveTo ⟨nofun, nofun, nofun⟩ hw.att_eq
  · exact hw

theorem Regs.SameAhead.recoverWaitLowArm {r q w x : Regs} (h : r.SameAhead q) (hw : w.SameAhead x) :
    (r.recoverWaitLowArm w).SameAhead (q.recoverWaitLowArm x) := by
  unfold Regs.recoverWaitLowArm
  rw [h.fall_eq]
  split
  · exact h.beginAttempt hw
  · exact hw

theorem Regs.SameAhead.unusedArm {w x : Regs} (hw : w.SameAhead x) :
    (Regs.unusedArm w).SameAhead (Regs.unusedArm x) :=
  hw.moveTo ⟨nofun, nofun, nofun⟩ hw.att_eq

/-- Alike states run the same arm, and its tests and writes read no leftover but those in which they agree. -/
theorem Regs.SameAhead.arm {r q w x : Regs} (h : r.SameAhead q) (i : Inputs) (hw : w.SameAhead x) :
    (r.arm i w).SameAhead (q.arm i x) := by
  unfold Regs.arm
  rw [h.state_eq]
  cases hs : r.state with
  | idle => exact hw.idleArm i
  | syncHi => exact h.syncHiArm hw
  | syncLo => exact h.syncLoArm hs hw
  | sample => exact h.sampleArm hs hw
  | recoverDelay => exact h.recoverDelayArm hs hw
  | recoverWaitLow => exact h.recoverWaitLowArm hw
  | unused6 => exact hw.unusedArm
  | unused7 => exact hw.unusedArm

theorem Regs.SameAhead.step {r q : Regs} (h : r.SameAhead q) (i : Inputs) : (r.step i).SameAhead (q.step i) := by
  unfold Regs.step
  split
  · exact .refl _
  · rw [Regs.everyCycle_eq_unmoved, Regs.everyCycle_eq_unmoved]
    exact h.arm i (h.unmoved i)

/-- Settles O42, by the arm of the STATE in which the two agree. -/
theorem stepReadsOnlyWhatItsStateNeeds : Obligations.StepReadsOnlyWhatItsStateNeeds :=
  fun _ _ i h => h.step i

/-! Whole acquisitions (R92). -/

theorem Regs.SameAhead.run {r q : Regs} (h : r.SameAhead q) (is : List Inputs) : (r.run is).SameAhead (q.run is) := by
  induction is generalizing r q with
  | nil => exact h
  | cons i is ih => exact ih (h.step i)

/-- `start` in IDLE clears ATT and begins the synchronization (R86). -/
theorem Regs.step_of_idle_start {r : Regs} {i : Inputs} (hs : r.state = .idle) (hr : i.rst = false)
    (hi : i.start = true) : r.step i = { r.unmoved i with att := 0, state := .syncHi } := by
  simp [Regs.step, Regs.arm, Regs.idleArm, Regs.everyCycle_eq_unmoved, hs, hr, hi]

/-- The cycle that begins an acquisition makes idle blocks alike: it writes ATT, and SYNC_HI reads no leftover. -/
theorem Regs.SameNow.step {r q : Regs} (h : r.SameNow q) {i : Inputs} (hr : i.rst = false) (hi : i.start = true) :
    (r.step i).SameAhead (q.step i) := by
  obtain ⟨hsr, hsq, hcs1, hcs2, -, hds1, -, hts⟩ := h
  rw [Regs.step_of_idle_start hsr hr hi, Regs.step_of_idle_start hsq hr hi]
  refine ⟨rfl, rfl, rfl, rfl, hcs1, hcs2, rfl, hds1, ?_, nofun, nofun, nofun, nofun⟩
  exact congrArg (· + _) hts

/-- Settles O43: alike after the first cycle, the two blocks are so at the end. -/
theorem acquisitionForgetsThePast : Obligations.AcquisitionForgetsThePast := by
  intro is i r q h hr hi
  rw [Regs.run_cons, Regs.run_cons]
  have hahead := (h.step hr hi).run is
  obtain ⟨-, -, -, hresult⟩ := hahead.reads
  obtain ⟨hstate, hatt, hdone, -⟩ := hahead
  exact ⟨hstate, hatt, hdone, hresult⟩

end Sys2Proof.Machine
end

section
/-! SUPPORT. The host operations (R85 to R90): what a request runs, and when `start` is taken. -/

namespace Sys2Proof.Machine

/-- A step runs the operation that the next word names and takes the word off (R85). -/
theorem step_of_decode_ok {s : State} {w : HostWord} {rest : List HostWord} (hq : s.hostQueue = w :: rest) {i : Instr}
    (hw : decode w = .ok i) : step s = exec i { s with hostQueue := rest } := by
  simp only [step, State.nextOperation, State.popRequest, hq, hw, List.tail_cons]

theorem step_of_decode_error {s : State} {w : HostWord} {rest : List HostWord} (hq : s.hostQueue = w :: rest)
    {e : DecodeError} (hw : decode w = .error e) : step s = .refused (.undecodable e) := by
  simp only [step, State.nextOperation, hq, hw]

/-- Settles O4, by what the host's next word decodes to. -/
theorem stepRunsTheDecodedOperation : Obligations.StepRunsTheDecodedOperation :=
  fun _ _ _ hq => ⟨fun _ => step_of_decode_ok hq, fun _ => step_of_decode_error hq⟩

/-- Beside `rst`, `start` makes no difference (R88, R188). -/
theorem State.cycle_rst_start (s : State) (start : Bool) : s.cycle true start = s.cycle true false := by
  unfold State.cycle
  rw [Regs.step_of_rst _ rfl, Regs.step_of_rst _ rfl]

/-- Settles O14: the arm of IDLE alone reads `start`, and reset runs no arm. -/
theorem acquireStartsOnlyInIdle : Obligations.AcquireStartsOnlyInIdle := by
  intro s
  refine ⟨fun hs => ⟨s.cycle false true, rfl, ?_⟩, exec_acquire_of_ne_idle,
    congrArg Host.Outcome.next (s.cycle_rst_start true)⟩
  rw [State.cycle_regs, Regs.step_of_idle_start hs rfl rfl]
  exact ⟨rfl, rfl, rfl, rfl⟩

/-- Settles O15: a busy block is outside IDLE, where ACQUIRE is NOP. -/
theorem acquireWhileBusyIsIgnored : Obligations.AcquireWhileBusyIsIgnored :=
  fun s hb => exec_acquire_of_ne_idle (s.regs.busy_iff.mp hb)

/-- Settles O16: NOP is one cycle, and without `start` the arm of IDLE writes nothing. -/
theorem nopDoesNothingForTheHost : Obligations.NopDoesNothingForTheHost :=
  fun s => ⟨s.cycle false false, rfl, s.cycle_regs false false, fun hs =>
    Regs.step_of_idle (i := s.cycleInputs false false) hs rfl rfl⟩

/-- The ways into IDLE without reset: to stay there, the end of an acquisition, and an unused code (R73, R127). -/
theorem Regs.step_idle_cases {r : Regs} {i : Inputs} (hr : i.rst = false) (ht : (r.step i).state = .idle) :
    r.state = .idle ∨ r.ends ∨ r.state = .unused6 ∨ r.state = .unused7 := by
  obtain ⟨hrst, -⟩ | ⟨-, hc⟩ := r.step_cases i
  · simp [hr] at hrst
  · rcases hc with ⟨hs, -, h⟩ | ⟨hs, -, h⟩ | ⟨hs, -, h⟩ | ⟨hs, -, h⟩ | ⟨hs, -, h⟩ | ⟨hs, -, -, h⟩ | ⟨hs, -, -, h⟩ |
      ⟨hs, -, h⟩ | ⟨hs, -, -, h⟩ | ⟨hs, he, hl, hv, h⟩ | ⟨hs, -, -, -, h⟩ | ⟨hs, he, hl, hv, h⟩ | ⟨hs, -, h⟩ |
      ⟨hs, -, -, h⟩ | ⟨hs, -, -, h⟩ | ⟨hs, -, h⟩ | ⟨hs, -, h⟩ | ⟨hs, h⟩
    all_goals simp [h, hs] at ht
    · exact .inl hs
    · exact .inr (.inl (r.ends_iff.mpr ⟨hs, he, hl, by simp [hv]⟩))
    · exact .inr (.inl (r.ends_iff.mpr ⟨hs, he, hl, by simp [hv]⟩))
    · exact .inr (.inr hs)

theorem Regs.busy_eq_false_iff (r : Regs) : r.busy = false ↔ r.state = .idle := bne_eq_false_iff_eq

/-- Settles O34: of the ways into IDLE, a busy block with a code in use has only the end of its acquisition and reset. -/
theorem onlyResetCancelsAnAcquisition : Obligations.OnlyResetCancelsAnAcquisition := by
  intro r i ⟨h6, h7⟩ hb ht
  cases hr : i.rst with
  | true => exact .inl rfl
  | false =>
    obtain hs | he | hs | hs := Regs.step_idle_cases hr ((r.step i).busy_eq_false_iff.mp ht)
    · exact absurd hs (r.busy_iff.mp hb)
    · exact .inr he
    · exact absurd hs h6
    · exact absurd hs h7

end Sys2Proof.Machine
end

section
/-! SUPPORT. The edge synchronizer (R101 to R108): what every cycle without reset writes, whichever state arm runs. -/

namespace Sys2Proof.Machine

/-- No state arm writes a synchronizer or TS: a cycle without reset leaves in them what every cycle writes (R116). -/
theorem Regs.step_lines_and_time (r : Regs) {i : Inputs} (hr : i.rst = false) :
    (r.step i).cs1 = i.calClk ∧ (r.step i).cs2 = r.cs1 ∧ (r.step i).cs3 = r.cs2 ∧
      (r.step i).ds1 = i.calData ∧ (r.step i).ds2 = r.ds1 ∧ (r.step i).ts = r.ts + (if i.usTick then 1 else 0) := by
  obtain ⟨hrst, -⟩ | ⟨-, hc⟩ := r.step_cases i
  · simp [hr] at hrst
  · rcases hc with ⟨-, -, h⟩ | ⟨-, -, h⟩ | ⟨-, -, h⟩ | ⟨-, -, h⟩ | ⟨-, -, h⟩ | ⟨-, -, -, h⟩ | ⟨-, -, -, h⟩ |
      ⟨-, -, h⟩ | ⟨-, -, -, h⟩ | ⟨-, -, -, -, h⟩ | ⟨-, -, -, -, h⟩ | ⟨-, -, -, -, h⟩ | ⟨-, -, h⟩ |
      ⟨-, -, -, h⟩ | ⟨-, -, -, h⟩ | ⟨-, -, h⟩ | ⟨-, -, h⟩ | ⟨-, h⟩
    all_goals rw [h]; exact ⟨rfl, rfl, rfl, rfl, rfl, rfl⟩

/-- One strobe is one tick, modulo 2^32 (R106). -/
theorem Timestamp.tick_toNat (t : Timestamp) (b : Bool) :
    (t + (if b then 1 else 0)).toNat = (t.toNat + b.toNat) % 2 ^ 32 := by
  rw [Timestamp.add_toNat]
  cases b <;> rfl

theorem Regs.step_of_sample_fail {r : Regs} {i : Inputs} (hs : r.state = .sample) (hr : i.rst = false)
    (h : r.rise = true) (hl : r.lastSample = true) (hv : r.verdict = .fail) :
    r.step i = Regs.fail (r.takeSample (r.unmoved i)) := by
  simp [Regs.step, Regs.arm, Regs.sampleArm, Regs.judge, Regs.everyCycle_eq_unmoved, hs, hr, h, hl, hv]

/-- A cycle that writes DONE is followed by one in IDLE (R151, R153). -/
theorem Regs.step_state_of_done {r : Regs} {i : Inputs} (h : (r.step i).done = true) : (r.step i).state = .idle := by
  obtain ⟨hr, he⟩ := (doneMarksTheEndOfAnAcquisition r i).mp h
  obtain ⟨hs, hrise, hl, hv⟩ := r.ends_iff.mp he
  cases hver : r.verdict with
  | valid => rw [Regs.step_of_sample_valid hs hr hrise hl hver, Regs.commit_state]
  | retry => exact absurd hver hv
  | fail => rw [Regs.step_of_sample_fail hs hr hrise hl hver, Regs.fail_state]

/-- DONE lasts one cycle (R116): the cycle after its write is in IDLE, and an acquisition ends in SAMPLE only. -/
theorem Regs.done_step_of_done {r : Regs} {i : Inputs} (h : (r.step i).done = true) (j : Inputs) :
    ((r.step i).step j).done = false := by
  refine Bool.eq_false_iff.mpr fun hj => ?_
  obtain ⟨-, ⟨hsample, -⟩, -⟩ := (doneMarksTheEndOfAnAcquisition (r.step i) j).mp hj
  exact absurd ((Regs.step_state_of_done h).symm.trans hsample) nofun

/-- Settles O17, by the writes of every cycle, and for DONE by the cycles that end an acquisition. -/
theorem everyCycleMovesLinesAndTime : Obligations.EveryCycleMovesLinesAndTime := by
  intro r i hr
  obtain ⟨hcs1, hcs2, hcs3, hds1, hds2, hts⟩ := r.step_lines_and_time hr
  refine ⟨hcs1, hcs2, hcs3, hds1, hds2, ?_, ?_, Regs.done_step_of_done⟩
  · rw [hts, Timestamp.tick_toNat]
  · rw [doneMarksTheEndOfAnAcquisition r i, and_iff_right hr]

/-- The detected rise in terms of the cycle before (R104). -/
theorem Regs.step_rise (r : Regs) {i : Inputs} (hr : i.rst = false) : (r.step i).rise = (r.cs1 && !r.cs2) := by
  obtain ⟨-, hcs2, hcs3, -⟩ := r.step_lines_and_time hr
  rw [Regs.rise, hcs2, hcs3]

/-- The detected fall in terms of the cycle before (R104). -/
theorem Regs.step_fall (r : Regs) {i : Inputs} (hr : i.rst = false) : (r.step i).fall = (!r.cs1 && r.cs2) := by
  obtain ⟨-, hcs2, hcs3, -⟩ := r.step_lines_and_time hr
  rw [Regs.fall, hcs2, hcs3]

/-- Settles O18: two cycles on, CS2 and CS3 hold the new level and the old one, and a cycle later the new one twice. -/
theorem pinEdgeIsSeenOnceTwoCyclesLater : Obligations.PinEdgeIsSeenOnceTwoCyclesLater := by
  intro r i j k hi hj hk hhold hedge
  obtain ⟨hics1, hics2, -, hids, -⟩ := r.step_lines_and_time hi
  obtain ⟨hjcs1, hjcs2, -, -, hjds, -⟩ := (r.step i).step_lines_and_time hj
  have hold : r.cs1 = !i.calClk := Bool.eq_not.mpr hedge.symm
  simp only [Regs.run_cons, Regs.run_nil]
  refine ⟨?_, ?_, hjds.trans hids, ?_, ?_⟩
  · rw [Regs.step_rise _ hj, hics1, hics2, hold, Bool.not_not, Bool.and_self]
  · rw [Regs.step_fall _ hj, hics1, hics2, hold, Bool.and_self, Bool.not_eq_true']
  · rw [Regs.step_rise _ hk, hjcs1, hjcs2, hics1, hhold, Bool.and_not_self]
  · rw [Regs.step_fall _ hk, hjcs1, hjcs2, hics1, hhold, Bool.not_and_self]

end Sys2Proof.Machine
end

section
/-! SUPPORT. The control unit (R115 to R127): the arm each STATE runs, how long its waits and its pause last, and where STATE
goes next. -/

namespace Sys2Proof.Machine

/-! One cycle of the block as the operations of the host see it (R70, R115). -/

/-- The pins of a cycle become the latest of the three past ones, where they were given. -/
theorem State.pinsSeen_eq (s : State) :
    s.pinsSeen = if s.pinQueue = [] then [] else s.pinQueue.take 1 ++ s.pastPins.take 2 := by
  cases h : s.pinQueue <;> simp [State.pinsSeen, h]

theorem State.cycle_eq (s : State) (rst start : Bool) :
    s.cycle rst start = { s with
      regs := s.regs.step (s.cycleInputs rst start), pinQueue := s.pinQueue.drop 1,
      pastPins := if s.pinQueue = [] then [] else s.pinQueue.take 1 ++ s.pastPins.take 2, draws := s.draws + 1 } := by
  rw [State.cycle, State.pinsSeen_eq, List.drop_one]

/-- Settles O7: each of the three is one cycle, with its own `rst` and `start`. -/
theorem controlOperationsTakeOneCycle : Obligations.ControlOperationsTakeOneCycle :=
  fun s => ⟨congrArg _ (s.cycle_eq false false), congrArg _ (s.cycle_eq false true), fun x => congrArg _ (s.cycle_eq true x)⟩

/-! The arms of the synchronization and the recovery. -/

theorem Regs.step_eq_arm (r : Regs) {i : Inputs} (hr : i.rst = false) : r.step i = r.arm i (r.unmoved i) := by
  rw [Regs.step, hr, if_neg Bool.false_ne_true, Regs.everyCycle_eq_unmoved]

theorem Regs.step_of_syncHi {r : Regs} {i : Inputs} (hs : r.state = .syncHi) (hr : i.rst = false) :
    r.step i = r.syncHiArm (r.unmoved i) := by
  simp only [r.step_eq_arm hr, Regs.arm, hs]

theorem Regs.step_of_syncLo {r : Regs} {i : Inputs} (hs : r.state = .syncLo) (hr : i.rst = false) :
    r.step i = r.syncLoArm (r.unmoved i) := by
  simp only [r.step_eq_arm hr, Regs.arm, hs]

theorem Regs.step_of_recoverDelay {r : Regs} {i : Inputs} (hs : r.state = .recoverDelay) (hr : i.rst = false) :
    r.step i = r.recoverDelayArm (r.unmoved i) := by
  simp only [r.step_eq_arm hr, Regs.arm, hs]

theorem Regs.step_of_recoverWaitLow {r : Regs} {i : Inputs} (hs : r.state = .recoverWaitLow) (hr : i.rst = false) :
    r.step i = r.recoverWaitLowArm (r.unmoved i) := by
  simp only [r.step_eq_arm hr, Regs.arm, hs]

theorem Regs.step_of_syncHi_not_rise {r : Regs} {i : Inputs} (hs : r.state = .syncHi) (hr : i.rst = false)
    (h : r.rise = false) : r.step i = r.unmoved i := by
  rw [Regs.step_of_syncHi hs hr, Regs.syncHiArm, h, if_neg Bool.false_ne_true]

theorem Regs.step_of_syncLo_not_fall {r : Regs} {i : Inputs} (hs : r.state = .syncLo) (hr : i.rst = false)
    (h : r.fall = false) : r.step i = r.unmoved i := by
  rw [Regs.step_of_syncLo hs hr, Regs.syncLoArm, h, if_neg Bool.false_ne_true]

theorem Regs.step_of_recoverWaitLow_not_fall {r : Regs} {i : Inputs} (hs : r.state = .recoverWaitLow)
    (hr : i.rst = false) (h : r.fall = false) : r.step i = r.unmoved i := by
  rw [Regs.step_of_recoverWaitLow hs hr, Regs.recoverWaitLowArm, h, if_neg Bool.false_ne_true]

/-- A pause that is not over takes no edge (R123). -/
theorem Regs.step_of_pause {r : Regs} {i : Inputs} (hs : r.state = .recoverDelay) (hr : i.rst = false)
    (h : (r.ts - r.tdly).toNat < 10000) : r.step i = r.unmoved i := by
  rw [Regs.step_of_recoverDelay hs hr, Regs.recoverDelayArm, r.not_pauseOver_iff.mpr h, if_neg Bool.false_ne_true]

/-- Settles O20, by the two branches of the arm. -/
theorem syncHiTakesTheRise : Obligations.SyncHiTakesTheRise := by
  refine fun r i hr hs => ⟨fun h => ?_, fun h => Regs.step_of_syncHi_not_rise hs hr (r.not_rise_iff.mpr h)⟩
  rw [Regs.step_of_syncHi hs hr, Regs.syncHiArm, if_pos (r.rise_iff.mpr h)]

/-- Settles O21: a fall after a gap, a fall too soon, and no fall. -/
theorem syncLoTestsTheGap : Obligations.SyncLoTestsTheGap := by
  refine fun r i hr hs => ⟨fun h hgap => ?_, fun h hgap => ?_, fun h =>
    Regs.step_of_syncLo_not_fall hs hr (r.not_fall_iff.mpr h)⟩
  · rw [Regs.step_of_syncLo hs hr, Regs.syncLoArm, if_pos (r.fall_iff.mpr h), if_pos (r.gapOk_iff.mpr hgap)]
    rfl
  · have hshort : r.gapOk = false := r.not_gapOk_iff.mpr (Nat.lt_succ_of_le hgap)
    rw [Regs.step_of_syncLo hs hr, Regs.syncLoArm, if_pos (r.fall_iff.mpr h), hshort, if_neg Bool.false_ne_true]

/-- Settles O26: the pause itself, and its end with and without a fall. -/
theorem recoverDelayWaitsOutThePause : Obligations.RecoverDelayWaitsOutThePause := by
  refine fun r i hr hs => ⟨Regs.step_of_pause hs hr, fun hover h => ?_, fun hover h => ?_⟩
  · rw [Regs.step_of_recoverDelay hs hr, Regs.recoverDelayArm, if_pos (r.pauseOver_iff.mpr hover),
      if_pos (r.fall_iff.mpr h)]
    rfl
  · rw [Regs.step_of_recoverDelay hs hr, Regs.recoverDelayArm, if_pos (r.pauseOver_iff.mpr hover),
      r.not_fall_iff.mpr h, if_neg Bool.false_ne_true]

/-- Settles O27, by the two branches of the arm, neither of which reads a timestamp to test it. -/
theorem recoverWaitLowTakesTheFall : Obligations.RecoverWaitLowTakesTheFall := by
  refine fun r i hr hs => ⟨fun h => ?_, fun h => Regs.step_of_recoverWaitLow_not_fall hs hr (r.not_fall_iff.mpr h)⟩
  rw [Regs.step_of_recoverWaitLow hs hr, Regs.recoverWaitLowArm, if_pos (r.fall_iff.mpr h)]
  rfl

/-! The recovery pause over many cycles (R123, R126). -/

/-- A strobe in a cycle of the pause is one tick more since TDLY (R106). -/
theorem Regs.since_tdly_unmoved {r : Regs} (i : Inputs) (h : (r.ts - r.tdly).toNat < 10000) :
    ((r.unmoved i).ts - (r.unmoved i).tdly).toNat = (r.ts - r.tdly).toNat + if i.usTick then 1 else 0 := by
  rw [Regs.unmoved_ts, Regs.unmoved_tdly]
  split
  · exact Timestamp.succ_sub_toNat r.ts r.tdly (by omega)
  · rw [add_zero, add_zero]

/-- Settles O29, by induction on the inputs: only the ticks before a cycle count in it. -/
theorem pauseIsNeverShorter : Obligations.PauseIsNeverShorter := by
  intro is
  induction is with
  | nil => exact fun r hs _ _ => ⟨hs, rfl, rfl, rfl, rfl⟩
  | cons i is ih =>
    intro r hs hr hticks
    obtain ⟨hi, his⟩ := List.forall_mem_cons.mp hr
    have hnow : (r.ts - r.tdly).toNat < 10000 := by omega
    rw [Regs.run_cons, Regs.step_of_pause hs hi hnow]
    cases is with
    | nil => exact ⟨hs, rfl, rfl, rfl, rfl⟩
    | cons j js =>
      refine ih (r.unmoved i) hs his ?_
      rw [List.dropLast_cons_cons, List.countP_cons] at hticks
      rw [Regs.since_tdly_unmoved i hnow]
      omega

/-- A pause that is over is left in the next cycle, by a fall or without one (R123). -/
theorem Regs.step_state_of_pauseOver {r : Regs} {i : Inputs} (hs : r.state = .recoverDelay) (hr : i.rst = false)
    (h : 10000 ≤ (r.ts - r.tdly).toNat) : (r.step i).state ≠ .recoverDelay := by
  obtain ⟨-, hfall, hnoFall⟩ := recoverDelayWaitsOutThePause r i hr hs
  by_cases hedge : r.cs2 = false ∧ r.cs3 = true
  · rw [hfall h hedge]
    nofun
  · rw [hnoFall h hedge]
    nofun

/-- With a tick in every cycle, a pause is left within one cycle more than the ticks it still lacks (R126). -/
theorem Regs.pause_ends (is : List Inputs) (r : Regs) (hs : r.state = .recoverDelay)
    (hticks : ∀ i ∈ is, i.rst = false ∧ i.usTick = true) (hlen : 10000 - (r.ts - r.tdly).toNat < is.length) :
    ∃ n ≤ is.length, (r.run (is.take n)).state ≠ .recoverDelay := by
  induction is generalizing r with
  | nil => cases hlen
  | cons i is ih =>
    obtain ⟨⟨hr, htick⟩, his⟩ := List.forall_mem_cons.mp hticks
    rw [List.length_cons] at hlen ⊢
    obtain hover | hnow := le_or_gt 10000 (r.ts - r.tdly).toNat
    · exact ⟨1, by omega, Regs.step_state_of_pauseOver hs hr hover⟩
    · have hsince := Regs.since_tdly_unmoved i hnow
      rw [if_pos htick] at hsince
      obtain ⟨n, hn, hleft⟩ := ih (r.unmoved i) hs his (by omega)
      refine ⟨n + 1, by omega, ?_⟩
      rwa [List.take_succ_cons, Regs.run_cons, Regs.step_of_pause hs hr hnow]

/-- Settles O30: 10001 cycles are enough whatever the pause has lasted already. -/
theorem pauseEndsIfTimeRuns : Obligations.PauseEndsIfTimeRuns := by
  intro is r hs hlen hticks
  obtain ⟨n, hn, hleft⟩ := Regs.pause_ends is r hs hticks (by omega)
  exact ⟨n, hlen ▸ hn, hleft⟩

/-! The waits for an edge (R126). -/

/-- A block whose STATE writes nothing without its own edge keeps it, and the result, over any run without that edge. -/
theorem Regs.run_of_wait {edge : Regs → Bool} (is : List Inputs) (r : Regs) (hb : r.busy = true)
    (hwait : ∀ (q : Regs) (i : Inputs), q.state = r.state → i.rst = false → edge q = false → q.step i = q.unmoved i)
    (hr : ∀ i ∈ is, i.rst = false) (hedge : ∀ n < is.length, edge (r.run (is.take n)) = false) :
    (r.run is).state = r.state ∧ (r.run is).busy = true ∧ (r.run is).pkt = r.pkt ∧ (r.run is).ok = r.ok ∧
      (r.run is).att = r.att := by
  induction is generalizing r with
  | nil => exact ⟨rfl, hb, rfl, rfl, rfl⟩
  | cons i is ih =>
    obtain ⟨hi, his⟩ := List.forall_mem_cons.mp hr
    have hstep : r.step i = r.unmoved i := hwait r i rfl hi (hedge 0 (Nat.succ_pos _))
    rw [Regs.run_cons, hstep]
    refine ih (r.unmoved i) hb hwait his fun n hn => ?_
    rw [← hstep]
    exact hedge (n + 1) (Nat.succ_lt_succ hn)

theorem Regs.step_of_wait_rise {r : Regs} {i : Inputs} (hs : r.state = .syncHi ∨ r.state = .sample) (hr : i.rst = false)
    (h : r.rise = false) : r.step i = r.unmoved i :=
  hs.elim (fun hs => Regs.step_of_syncHi_not_rise hs hr h) fun hs => Regs.step_of_sample_not_rise hs hr h

theorem Regs.step_of_wait_fall {r : Regs} {i : Inputs} (hs : r.state = .syncLo ∨ r.state = .recoverWaitLow)
    (hr : i.rst = false) (h : r.fall = false) : r.step i = r.unmoved i :=
  hs.elim (fun hs => Regs.step_of_syncLo_not_fall hs hr h) fun hs => Regs.step_of_recoverWaitLow_not_fall hs hr h

/-- Settles O35: the four waits write nothing without their edge, and without a tick the pause gets no longer. -/
theorem waitsHaveNoTimeout : Obligations.WaitsHaveNoTimeout := by
  refine ⟨fun is r hs hr hedge => ?_, fun is r hs hr hedge => ?_, fun is r hs hnow his => ?_⟩
  · have hb : r.busy = true := r.busy_iff.mpr (by rcases hs with hs | hs <;> simp [hs])
    refine Regs.run_of_wait (edge := Regs.rise) is r hb (fun q i hq => ?_) hr fun n hn =>
      (Regs.not_rise_iff _).mpr (hedge n hn)
    exact Regs.step_of_wait_rise (hq ▸ hs)
  · have hb : r.busy = true := r.busy_iff.mpr (by rcases hs with hs | hs <;> simp [hs])
    refine Regs.run_of_wait (edge := Regs.fall) is r hb (fun q i hq => ?_) hr fun n hn =>
      (Regs.not_fall_iff _).mpr (hedge n hn)
    exact Regs.step_of_wait_fall (hq ▸ hs)
  · have hticks : is.dropLast.countP (fun i => i.usTick) = 0 :=
      List.countP_eq_zero.mpr fun i hi => by simp [(his i (List.mem_of_mem_dropLast hi)).2]
    obtain ⟨hstay, -⟩ := pauseIsNeverShorter is r hs (fun i hi => (his i hi).1) (by omega)
    exact ⟨hstay, (Regs.busy_iff _).mpr (by simp [hstay])⟩

/-! The transition graph (R127). -/

/-- STATE after a completion cycle, by the verdict: with ATT in its range, an attempt is left unless ATT is 4 (R150). -/
theorem Regs.verdict_state {r : Regs} (ha : r.att.toNat ≤ 4) :
    (if (r.ts - r.tstart).toNat < 900 then FsmState.idle else if r.att.toNat < 4 then .recoverDelay else .idle) =
      if r.verdict = .retry then .recoverDelay else .idle := by
  obtain ⟨hv, ht⟩ | ⟨hv, ht, ha4⟩ | ⟨hv, ht, ha4⟩ := r.verdict_cases
  · rw [if_pos ht, hv, if_neg nofun]
  · rw [if_neg (Nat.not_lt.mpr ht), ha4, hv, if_neg nofun]
    rfl
  · have hlt : r.att.toNat < 4 := lt_of_le_of_ne ha fun h => ha4 (BitVec.eq_of_toNat_eq h)
    rw [if_neg (Nat.not_lt.mpr ht), if_pos hlt, if_pos hv]

/-- Settles O31: each transition of the step, its conditions written as the tests of the control unit. -/
theorem stateMovesOnlyAlongTheGraph : Obligations.StateMovesOnlyAlongTheGraph := by
  rintro r i ⟨ha, -⟩
  rw [Regs.verdict_state ha]
  simp only [← Regs.rise_iff, ← Regs.fall_iff, Regs.completes_iff, ← Regs.not_gapOk_iff, ← Regs.pauseOver_iff]
  obtain ⟨hr, h⟩ | ⟨hr, hc⟩ := r.step_cases i
  · rw [h, if_pos hr]
    rfl
  · rcases hc with ⟨hs, hst, h⟩ | ⟨hs, hst, h⟩ | ⟨hs, he, h⟩ | ⟨hs, he, h⟩ | ⟨hs, he, h⟩ | ⟨hs, he, hg, h⟩ | ⟨hs, he, hg, h⟩ |
      ⟨hs, he, h⟩ | ⟨hs, he, hl, h⟩ | ⟨hs, he, hl, hv, h⟩ | ⟨hs, he, hl, hv, h⟩ | ⟨hs, he, hl, hv, h⟩ | ⟨hs, hp, h⟩ |
      ⟨hs, hp, he, h⟩ | ⟨hs, hp, he, h⟩ | ⟨hs, he, h⟩ | ⟨hs, he, h⟩ | ⟨hs | hs, h⟩
    all_goals simp [*]

end Sys2Proof.Machine
end

section
/-! SUPPORT. The shift register sampler (R140 to R147): what a rise in SAMPLE writes, and how far the data line reaches. -/

namespace Sys2Proof.Machine

/-! What the data line does not reach (R147). Erasing the data part of the registers and of the inputs changes no test of the
control unit, so it changes no transition. -/

/-- The registers without those the data line reaches. -/
def Regs.control (r : Regs) : Regs := { r with ds1 := false, ds2 := false, sr := 0, pkt := 0 }

/-- The inputs without the data line. -/
def Inputs.control (i : Inputs) : Inputs := { i with calData := false }

theorem Regs.sameControl_iff (r q : Regs) : r.SameControl q ↔ r.control = q.control := by
  refine ⟨fun h => ?_, fun h => ?_⟩
  · rw [h]
    rfl
  · cases r
    cases q
    simp only [Regs.control, Regs.mk.injEq, true_and] at h
    simp only [Regs.SameControl, h]

theorem Inputs.SameButData.control_eq {i j : Inputs} (h : i.SameButData j) : i.control = j.control := by
  rw [h]
  rfl

@[simp] theorem Regs.control_state (r : Regs) : r.control.state = r.state := rfl
@[simp] theorem Regs.control_rise (r : Regs) : r.control.rise = r.rise := rfl
@[simp] theorem Regs.control_fall (r : Regs) : r.control.fall = r.fall := rfl
@[simp] theorem Regs.control_gapOk (r : Regs) : r.control.gapOk = r.gapOk := rfl
@[simp] theorem Regs.control_pauseOver (r : Regs) : r.control.pauseOver = r.pauseOver := rfl
@[simp] theorem Regs.control_lastSample (r : Regs) : r.control.lastSample = r.lastSample := rfl
@[simp] theorem Regs.control_verdict (r : Regs) : r.control.verdict = r.verdict := rfl

theorem Regs.control_unmoved (r : Regs) (i : Inputs) : (r.unmoved i).control = r.control.unmoved i.control := rfl

/-! The arms. That of SAMPLE alone reads registers the data line reaches, and what it reads goes to SR and PKT only (R142,
R151). -/

theorem Regs.control_judge (r w : Regs) : (r.judge w).control = (r.control.judge w.control).control := by
  unfold Regs.judge
  rw [Regs.control_verdict]
  cases r.verdict <;> rfl

theorem Regs.control_idleArm (i : Inputs) (w : Regs) :
    (Regs.idleArm i w).control = (Regs.idleArm i.control w.control).control := by
  have hstart : i.control.start = i.start := rfl
  unfold Regs.idleArm
  rw [hstart]
  split <;> rfl

theorem Regs.control_syncHiArm (r w : Regs) : (r.syncHiArm w).control = (r.control.syncHiArm w.control).control := by
  unfold Regs.syncHiArm
  rw [Regs.control_rise]
  split <;> rfl

theorem Regs.control_syncLoArm (r w : Regs) : (r.syncLoArm w).control = (r.control.syncLoArm w.control).control := by
  unfold Regs.syncLoArm
  rw [Regs.control_fall, Regs.control_gapOk]
  split
  · split <;> rfl
  · rfl

theorem Regs.control_sampleArm (r w : Regs) : (r.sampleArm w).control = (r.control.sampleArm w.control).control := by
  unfold Regs.sampleArm
  rw [Regs.control_rise, Regs.control_lastSample]
  split
  · split
    · exact (r.control_judge (r.takeSample w)).trans (r.control.control_judge (r.control.takeSample w.control)).symm
    · rfl
  · rfl

theorem Regs.control_recoverDelayArm (r w : Regs) :
    (r.recoverDelayArm w).control = (r.control.recoverDelayArm w.control).control := by
  unfold Regs.recoverDelayArm
  rw [Regs.control_pauseOver, Regs.control_fall]
  split
  · split <;> rfl
  · rfl

theorem Regs.control_recoverWaitLowArm (r w : Regs) :
    (r.recoverWaitLowArm w).control = (r.control.recoverWaitLowArm w.control).control := by
  unfold Regs.recoverWaitLowArm
  rw [Regs.control_fall]
  split <;> rfl

theorem Regs.control_arm (r : Regs) (i : Inputs) (w : Regs) :
    (r.arm i w).control = (r.control.arm i.control w.control).control := by
  unfold Regs.arm
  rw [Regs.control_state]
  cases r.state with
  | idle => exact Regs.control_idleArm i w
  | syncHi => exact r.control_syncHiArm w
  | syncLo => exact r.control_syncLoArm w
  | sample => exact r.control_sampleArm w
  | recoverDelay => exact r.control_recoverDelayArm w
  | recoverWaitLow => exact r.control_recoverWaitLowArm w
  | unused6 => rfl
  | unused7 => rfl

/-- The control part of the next state is that of a step of the control parts alone. -/
theorem Regs.control_step (r : Regs) (i : Inputs) : (r.step i).control = (r.control.step i.control).control := by
  cases hr : i.rst with
  | true => rw [r.step_of_rst hr, r.control.step_of_rst (i := i.control) hr]
  | false => rw [r.step_eq_arm hr, r.control.step_eq_arm (i := i.control) hr, Regs.control_arm, Regs.control_unmoved]

theorem Regs.SameControl.step {r q : Regs} {i j : Inputs} (h : r.SameControl q) (hij : i.SameButData j) :
    (r.step i).SameControl (q.step j) := by
  rw [Regs.sameControl_iff] at h ⊢
  rw [r.control_step, q.control_step, h, hij.control_eq]

/-- Settles O40, by induction on the two lists of inputs: each pair of cycles keeps the control parts equal. -/
theorem dataLineNeverMovesTheControl : Obligations.DataLineNeverMovesTheControl := by
  intro is js r q hijs h
  induction hijs generalizing r q with
  | nil => exact h
  | cons hij _ ih => exact ih (r.step _) (q.step _) (h.step hij)

/-! A rise in SAMPLE (R142, R143). -/

/-- The last sample of an attempt is judged (R144). -/
theorem Regs.step_of_sample_last {r : Regs} {i : Inputs} (hs : r.state = .sample) (hr : i.rst = false)
    (h : r.rise = true) (hl : r.lastSample = true) : r.step i = r.judge (r.takeSample (r.unmoved i)) := by
  simp only [r.step_eq_arm hr, Regs.arm, hs, Regs.sampleArm, h, hl, if_true]

/-! No verdict writes SR or BITCNT (R151 to R153). -/

@[simp] theorem Regs.judge_sr (r w : Regs) : (r.judge w).sr = w.sr := by
  unfold Regs.judge
  cases r.verdict <;> rfl

@[simp] theorem Regs.judge_bitcnt (r w : Regs) : (r.judge w).bitcnt = w.bitcnt := by
  unfold Regs.judge
  cases r.verdict <;> rfl

/-- Every rise in SAMPLE shifts a sample in, the last one too (R142). -/
theorem Regs.step_sr_of_sample_rise {r : Regs} {i : Inputs} (hs : r.state = .sample) (hr : i.rst = false)
    (h : r.rise = true) : (r.step i).sr = shiftIn r.sampleBit r.sr := by
  cases hl : r.lastSample with
  | false => rw [Regs.step_of_sample_rise hs hr h hl, Regs.countSample_sr, Regs.takeSample_sr, Regs.srNext]
  | true => rw [Regs.step_of_sample_last hs hr h hl, Regs.judge_sr, Regs.takeSample_sr, Regs.srNext]

/-- Settles O22: the bits of the shift, then the sample that is counted, the last one, and no rise. -/
theorem sampleTakesOneBitPerRise : Obligations.SampleTakesOneBitPerRise := by
  refine fun r i hr hs => ⟨fun hedge => ?_, fun h => Regs.step_of_sample_not_rise hs hr (r.not_rise_iff.mpr h)⟩
  have h : r.rise = true := r.rise_iff.mpr hedge
  refine ⟨?_, fun hne => ?_, fun h28 => ?_⟩
  · rw [Regs.step_sr_of_sample_rise hs hr h]
    exact ⟨shiftIn_getLsbD _ _ 28, fun k hk => (shiftIn_getLsbD _ _ k).trans (if_neg (ne_of_lt hk))⟩
  · have hl : r.lastSample = false := Bool.eq_false_iff.mpr (mt r.lastSample_iff.mp hne)
    rw [Regs.step_of_sample_rise hs hr h hl]
    rfl
  · rw [Regs.step_of_sample_last hs hr h (r.lastSample_iff.mpr h28), Regs.judge_bitcnt, Regs.takeSample_bitcnt,
      Regs.unmoved_bitcnt, h28]

end Sys2Proof.Machine
end

section
/-! SUPPORT. The packet validator (R150 to R157): what each verdict writes, and that no other cycle writes PKT or OK. -/

namespace Sys2Proof.Machine

/-! The verdicts by the numbers of R150. -/

theorem Regs.verdict_eq_retry {r : Regs} (ht : 900 ≤ (r.ts - r.tstart).toNat) (ha : r.att ≠ 4) :
    r.verdict = .retry := by
  obtain ⟨-, h⟩ | ⟨-, -, h⟩ | ⟨hv, -⟩ := r.verdict_cases
  · exact absurd ht (Nat.not_le.mpr h)
  · exact absurd h ha
  · exact hv

theorem Regs.verdict_eq_fail {r : Regs} (ht : 900 ≤ (r.ts - r.tstart).toNat) (ha : r.att = 4) :
    r.verdict = .fail := by
  obtain ⟨-, h⟩ | ⟨hv, -⟩ | ⟨-, -, h⟩ := r.verdict_cases
  · exact absurd ht (Nat.not_le.mpr h)
  · exact hv
  · exact absurd ha h

/-! The completion cycle (R144). -/

/-- The completion cycle takes its sample and judges the attempt in the same cycle (R144, R150). -/
theorem Regs.step_of_completes {r : Regs} {i : Inputs} (hr : i.rst = false) (hc : r.completes) :
    r.step i = r.judge (r.takeSample (r.unmoved i)) := by
  obtain ⟨hs, hrise, hl⟩ := r.completes_iff.mp hc
  exact Regs.step_of_sample_last hs hr hrise hl

/-- The new sample, inverted, stands on top of SR_next, and every older one a place lower (R141, R142). -/
theorem Regs.srNext_bits (r : Regs) :
    r.srNext.getLsbD 28 = (!r.ds2) ∧ ∀ k < 28, r.srNext.getLsbD k = r.sr.getLsbD (k + 1) :=
  ⟨shiftIn_getLsbD _ _ 28, fun k hk => (shiftIn_getLsbD _ _ k).trans (if_neg (ne_of_lt hk))⟩

/-- The candidate packet is the low 28 bits of SR_next (R146). -/
theorem Regs.cand_getLsbD_eq_srNext (r : Regs) {k : Nat} (hk : k < 28) : r.cand.getLsbD k = r.srNext.getLsbD k :=
  (r.cand_getLsbD k hk).trans (r.srNext_bits.2 k hk).symm

/-- Settles O23: the verdict is VALID, and the packet committed is the candidate. -/
theorem validVerdictCommitsThePacket : Obligations.ValidVerdictCommitsThePacket := by
  intro r i hr hc ht
  obtain ⟨htop, hlow⟩ := r.srNext_bits
  refine ⟨r.srNext, r.cand, ?_, htop, hlow, fun k hk => r.cand_getLsbD_eq_srNext hk⟩
  rw [Regs.step_of_completes hr hc, Regs.judge, Regs.verdict_eq_valid ht]
  rfl

/-- Settles O24: the verdict is RETRY. -/
theorem retryVerdictStartsTheRecovery : Obligations.RetryVerdictStartsTheRecovery := by
  intro r i hr hc ht ha
  refine ⟨r.srNext, ?_, r.srNext_bits⟩
  rw [Regs.step_of_completes hr hc, Regs.judge, Regs.verdict_eq_retry ht ha]
  rfl

/-- Settles O25: the verdict is FAIL. -/
theorem failVerdictZeroesThePacket : Obligations.FailVerdictZeroesThePacket := by
  intro r i hr hc ht ha
  refine ⟨r.srNext, ?_, r.srNext_bits⟩
  rw [Regs.step_of_completes hr hc, Regs.judge, Regs.verdict_eq_fail ht ha]
  rfl

/-! The cycles that end no acquisition (R157). -/

/-- Of the transitions of R127 only VALID and FAIL write PKT or OK (R151, R153). -/
theorem Regs.step_result_of_not_ends {r : Regs} {i : Inputs} (hr : i.rst = false) (hne : ¬r.ends) :
    (r.step i).pkt = r.pkt ∧ (r.step i).ok = r.ok := by
  rw [Regs.ends_iff] at hne
  obtain ⟨hrst, -⟩ | ⟨-, hc⟩ := r.step_cases i
  · simp [hr] at hrst
  · rcases hc with ⟨-, -, h⟩ | ⟨-, -, h⟩ | ⟨-, -, h⟩ | ⟨-, -, h⟩ | ⟨-, -, h⟩ | ⟨-, -, -, h⟩ | ⟨-, -, -, h⟩ |
      ⟨-, -, h⟩ | ⟨-, -, -, h⟩ | ⟨hs, he, hl, hv, -⟩ | ⟨-, -, -, -, h⟩ | ⟨hs, he, hl, hv, -⟩ | ⟨-, -, h⟩ |
      ⟨-, -, -, h⟩ | ⟨-, -, -, h⟩ | ⟨-, -, h⟩ | ⟨-, -, h⟩ | ⟨-, h⟩
    pick_goal 12
    · exact absurd ⟨hs, he, hl, by simp [hv]⟩ hne
    pick_goal 10
    · exact absurd ⟨hs, he, hl, by simp [hv]⟩ hne
    all_goals rw [h]; exact ⟨rfl, rfl⟩

/-- Settles O33: PKT and OK keep their values, and every field output is read from PKT (R171). -/
theorem packetIsWrittenOnlyAtTheEnd : Obligations.PacketIsWrittenOnlyAtTheEnd := by
  intro r i hr hne
  obtain ⟨hpkt, hok⟩ := Regs.step_result_of_not_ends hr hne
  exact ⟨hpkt, congrArg packetDigits hpkt, congrArg packetNeg hpkt, congrArg packetMetric hpkt,
    congrArg (fun p => !packetMetric p) hpkt, congrArg packetHalf hpkt, hok⟩

end Sys2Proof.Machine
end

section
/-! SUPPORT. The field decoder (R165 to R173): what the field outputs read of PKT. -/

namespace Sys2Proof.Machine

/-! The digits in PKT (R65, R75). -/

/-- The five digits together are PKT[19:0], bit by bit (R166). -/
theorem packetDigits_getLsbD (p : Packet) {k : Nat} (hk : k < 20) : (packetDigits p).getLsbD k = p.getLsbD k := by
  simp [packetDigits, hk]

/-- The five digits together are digit 4 down to digit 0 (R75). -/
theorem packetDigits_eq_append (p : Packet) :
    packetDigits p = packetDigit p 4 ++ packetDigit p 3 ++ packetDigit p 2 ++ packetDigit p 1 ++ packetDigit p 0 := by
  unfold packetDigit
  rw [BitVec.extractLsb'_append_extractLsb'_eq_extractLsb', BitVec.extractLsb'_append_extractLsb'_eq_extractLsb',
    BitVec.extractLsb'_append_extractLsb'_eq_extractLsb', BitVec.extractLsb'_append_extractLsb'_eq_extractLsb'] <;> rfl

/-- Of five nibbles below any word, nibble i is left when the i nibbles below it are taken off. -/
theorem extractLsb'_append_nibbles {n : Nat} (x : BitVec n) (d4 d3 d2 d1 d0 : BitVec 4) :
    (x ++ d4 ++ d3 ++ d2 ++ d1 ++ d0).extractLsb' 0 4 = d0 ∧
    (x ++ d4 ++ d3 ++ d2 ++ d1 ++ d0).extractLsb' 4 4 = d1 ∧
    (x ++ d4 ++ d3 ++ d2 ++ d1 ++ d0).extractLsb' 8 4 = d2 ∧
    (x ++ d4 ++ d3 ++ d2 ++ d1 ++ d0).extractLsb' 12 4 = d3 ∧
    (x ++ d4 ++ d3 ++ d2 ++ d1 ++ d0).extractLsb' 16 4 = d4 := by
  simp [BitVec.extractLsb'_append_eq_of_le, BitVec.extractLsb'_append_eq_right]

/-! The fields of a packet word made of chosen values (R173, Table E1). -/

/-- The flags stand at bits 26, 25 and 24, above RSVD_A and the digits. -/
theorem packetOfFields_flags (metric half neg : Bool) (d4 d3 d2 d1 d0 : BitVec 4) :
    packetMetric (packetOfFields metric half neg d4 d3 d2 d1 d0) = metric ∧
    packetHalf (packetOfFields metric half neg d4 d3 d2 d1 d0) = half ∧
    packetNeg (packetOfFields metric half neg d4 d3 d2 d1 d0) = neg := by
  simp only [packetMetric, packetHalf, packetNeg, packetOfFields, BitVec.getLsbD_setWidth, BitVec.getLsbD_append]
  simp [Config.packetBits]

/-- The digits are the five nibbles below the flags and RSVD_A. -/
theorem packetOfFields_digits (metric half neg : Bool) (d4 d3 d2 d1 d0 : BitVec 4) :
    packetDigit (packetOfFields metric half neg d4 d3 d2 d1 d0) 0 = d0 ∧
    packetDigit (packetOfFields metric half neg d4 d3 d2 d1 d0) 1 = d1 ∧
    packetDigit (packetOfFields metric half neg d4 d3 d2 d1 d0) 2 = d2 ∧
    packetDigit (packetOfFields metric half neg d4 d3 d2 d1 d0) 3 = d3 ∧
    packetDigit (packetOfFields metric half neg d4 d3 d2 d1 d0) 4 = d4 := by
  rw [packetOfFields_eq]
  exact extractLsb'_append_nibbles _ d4 d3 d2 d1 d0

/-- Settles O49, by the flags and the digits of the word; digits_bcd is made of the digits. -/
theorem fieldsSurviveTheRoundTrip : Obligations.FieldsSurviveTheRoundTrip := by
  intro metric half neg d4 d3 d2 d1 d0 r hpkt
  obtain ⟨hmetric, hhalf, hneg⟩ := packetOfFields_flags metric half neg d4 d3 d2 d1 d0
  obtain ⟨h0, h1, h2, h3, h4⟩ := packetOfFields_digits metric half neg d4 d3 d2 d1 d0
  rw [← hpkt] at hmetric hhalf hneg h0 h1 h2 h3 h4
  refine ⟨hmetric, congrArg not hmetric, hhalf, hneg, h0, h1, h2, h3, h4, ?_⟩
  rw [Regs.digitsBcd, packetDigits_eq_append, h0, h1, h2, h3, h4]

/-- Settles O50: digits_bcd reads bits 0 to 19, and the flags read bits 24, 25 and 26. -/
theorem reservedBitsReachNoFieldOutput : Obligations.ReservedBitsReachNoFieldOutput := by
  intro r q h
  have hbit : ∀ k, k < 20 ∨ 24 ≤ k ∧ k < 27 → r.pkt.getLsbD k = q.pkt.getLsbD k := fun k hk => by
    apply h <;> omega
  have hmetric : r.metric = q.metric := hbit 26 (by decide)
  refine ⟨BitVec.eq_of_getLsbD_eq fun k hk => ?_, hbit 24 (by decide), hmetric, congrArg not hmetric,
    hbit 25 (by decide)⟩
  rw [Regs.digitsBcd, Regs.digitsBcd, packetDigits_getLsbD _ hk, packetDigits_getLsbD _ hk]
  exact hbit k (.inl hk)

/-! The queries (R165 to R170). -/

/-- Settles O44: the port is PKT itself. -/
theorem readPacketGivesPkt : Obligations.ReadPacketGivesPkt := fun _ => rfl

/-- Settles O45, by the bits of the five digits. -/
theorem digitsBcdGivesTheFiveDigits : Obligations.DigitsBcdGivesTheFiveDigits :=
  fun s => ⟨s.regs.digitsBcd, rfl, fun _ hk => packetDigits_getLsbD s.regs.pkt hk⟩

/-- Settles O46: each port is its bit of PKT, or the negation of it. -/
theorem predicatesGiveTheFlagBits : Obligations.PredicatesGiveTheFlagBits := fun _ => ⟨rfl, rfl, rfl, rfl⟩

end Sys2Proof.Machine
end

section
/-! SUPPORT. The completion of every operation (R180). -/

namespace Sys2Proof.Machine

/-- A control operation completes with its cycle and a query with its read, in every state (R180). -/
theorem exec_completes (i : Instr) (s : State) : ∃ t, exec i s = .next t := by
  obtain ⟨-, rst, start, hcycle⟩ | ⟨-, v, hread⟩ := exec_cases i s
  · exact ⟨s.cycle rst start, hcycle⟩
  · exact ⟨s.readPort v, hread⟩

/-- Settles O6: every operation completes, and the block has no fault to answer, `Fault` being empty. -/
theorem noOperationStops : Obligations.NoOperationStops := ⟨exec_completes, fun _ fault => nomatch fault⟩

end Sys2Proof.Machine
end

section
/-! SUPPORT. Which level the synchronizers capture beside short phases of `cal_clk` and moving `cal_data` (R108, R205, R206; log
entry 5). -/

namespace Sys2Proof.Machine

@[simp] theorem clkLine_cons_succ (p : Pins) (ps : List Pins) (k : Nat) : clkLine (p :: ps) (k + 1) = clkLine ps k := rfl

@[simp] theorem dataLine_cons_succ (p : Pins) (ps : List Pins) (k : Nat) : dataLine (p :: ps) (k + 1) = dataLine ps k := rfl

@[simp] theorem Pin.settled_low : Pin.low.settled = some false := rfl

@[simp] theorem Pin.settled_high : Pin.high.settled = some true := rfl

@[simp] theorem Pin.settled_level (v : Bool) : (if v then Pin.high else Pin.low).settled = some v := by
  cases v <;> rfl

theorem Pin.settled_injective : Function.Injective Pin.settled := by
  intro p q
  cases p <;> cases q <;> simp [Pin.settled]

/-! The phases of `cal_clk` (R205). -/

theorem phaseLasts_iff (before now next : Option Bool) :
    phaseLasts before now next = true ↔ now.isSome ∧ (before = now ∨ next = now) := by
  simp [phaseLasts]

/-- CS1 captures the level of a line that a neighbouring cycle shows at it too. -/
theorem State.capturedClk_of_clkLine {s : State} {v : Bool} (hv : clkLine s.pinQueue 0 = some v)
    (hn : clkLine s.pastPins 0 = some v ∨ clkLine s.pinQueue 1 = some v) : s.capturedClk = v := by
  have hlasts : s.clkLasts = true := by
    rw [State.clkLasts, phaseLasts_iff, hv]
    exact ⟨rfl, hn⟩
  rw [State.capturedClk, if_pos hlasts, hv, Option.getD_some]

/-- CS1 captures a draw where neither neighbouring cycle shows the line at its level. -/
theorem State.capturedClk_of_short {s : State} (hb : clkLine s.pastPins 0 ≠ clkLine s.pinQueue 0)
    (hx : clkLine s.pinQueue 1 ≠ clkLine s.pinQueue 0) : s.capturedClk = Config.freeClkLevel s.draws := by
  refine if_neg fun hlasts => ?_
  rw [State.clkLasts, phaseLasts_iff] at hlasts
  exact hlasts.2.elim hb hx

/-- A line that differs in a cycle, or is not given there, does not show the settled level of the pin `p`. -/
theorem clkLine_ne_settled {ps : List Pins} {k : Nat} {p : Pin} (hp : p ≠ .changing)
    (h : ∀ q, ps[k]? = some q → q.calClk ≠ p) : clkLine ps k ≠ p.settled := by
  unfold clkLine
  cases hq : ps[k]? with
  | none => exact fun hnone => hp (Pin.settled_injective hnone.symm)
  | some q => exact Pin.settled_injective.ne (h q hq)

/-- Settles O10: a changing pin is a draw, and a settled one whose neighbours do not show its level is in a short phase. -/
theorem shortClockPhaseIsADraw : Obligations.ShortClockPhaseIsADraw := by
  intro s p rest rst start hq hb hx
  have hnow : clkLine s.pinQueue 0 = p.calClk.settled := by rw [hq, clkLine_cons_zero]
  by_cases hp : p.calClk = .changing
  · exact State.capturedClk_of_clkLine_none (by rw [hnow, hp, Pin.settled_changing])
  · refine State.capturedClk_of_short ?_ ?_
    · rw [hnow]
      exact clkLine_ne_settled hp hb
    · rw [hnow, hq, clkLine_cons_succ]
      exact clkLine_ne_settled hp hx

/-- Over the cycles of a phase CS1 captures its level in each, if a second cycle of the phase is still to come or the cycle
before already showed the level. -/
theorem State.inputsOver_calClk_of_phase {v : Bool} {rest : List Pins} (phase : List Pins) (cs : List (Bool × Bool))
    (s : State) (hq : s.pinQueue = phase ++ rest) (hlen : cs.length = phase.length) (hv : ∀ p ∈ phase, p.calClk.settled = some v)
    (hlasts : 2 ≤ phase.length ∨ clkLine s.pastPins 0 = some v) : ∀ i ∈ s.inputsOver cs, i.calClk = v := by
  induction phase generalizing cs s with
  | nil =>
    rw [List.length_eq_zero_iff.mp hlen]
    exact fun i hi => nomatch hi
  | cons p ps ih =>
    obtain ⟨c, cs, rfl⟩ := List.exists_cons_of_length_eq_add_one hlen
    obtain ⟨hp, hps⟩ := List.forall_mem_cons.mp hv
    have hnow : clkLine s.pinQueue 0 = some v := by rw [hq, List.cons_append, clkLine_cons_zero, hp]
    have hbeside : clkLine s.pastPins 0 = some v ∨ clkLine s.pinQueue 1 = some v := by
      refine hlasts.symm.imp_right fun htwo => ?_
      obtain ⟨x, xs, rfl⟩ := List.exists_cons_of_length_pos (Nat.le_of_succ_le_succ htwo)
      rw [hq, List.cons_append, clkLine_cons_succ, List.cons_append, clkLine_cons_zero, hps x List.mem_cons_self]
    refine List.forall_mem_cons.mpr ⟨State.capturedClk_of_clkLine hnow hbeside, ih cs _ ?_ ?_ hps (.inr ?_)⟩
    · rw [State.cycle_pinQueue, hq, List.cons_append, List.tail_cons]
    · exact Nat.succ.inj hlen
    · rw [State.cycle_pastPins, State.pinsSeen, hq, List.cons_append, clkLine_cons_zero, hp]

/-- Settles O9: the second cycle shows that the first is in a lasting phase, and each cycle shows it for the next one. -/
theorem longClockPhaseIsSeenWhole : Obligations.LongClockPhaseIsSeenWhole := by
  intro cs phase rest s v hq htwo hlen hv
  have hsettled : ∀ p ∈ phase, p.calClk.settled = some v := fun p hp => by rw [hv p hp, Pin.settled_level]
  exact State.inputsOver_calClk_of_phase phase cs s hq hlen hsettled (.inl htwo)

/-! `cal_data` beside a rise of `cal_clk` (R206). -/

/-- DS1 captures the settled level of the line, unless it does not hold around a rise caught. -/
theorem State.capturedData_of_dataLine {s : State} {v : Bool} (hv : dataLine s.pinQueue 0 = some v)
    (hd : s.dataHolds = true) : s.capturedData = v := by
  obtain ⟨-, hmoves, -⟩ | ⟨-, hc⟩ := s.capturedData_cases
  · rw [hd] at hmoves
    cases hmoves
  · rw [hc, hv, Option.getD_some]

/-- DS1 captures a draw where the clock is caught rising and data does not hold around the rise. -/
theorem State.capturedData_of_moves {s : State} (hcs : s.regs.cs1 = false) (hc : s.capturedClk = true)
    (hd : s.dataHolds = false) : s.capturedData = Config.freeDataLevel s.draws := by
  simp [State.capturedData, State.catchesRise, hcs, hc, hd]

/-- A line low in the cycle before and not low now rose now: data is held to the cycles around this one. -/
theorem State.dataHolds_of_rise_now {s : State} (hb : clkLine s.pastPins 0 = some false)
    (hp : clkLine s.pinQueue 0 ≠ some false) :
    s.dataHolds = levelHolds (dataLine s.pastPins 0) (dataLine s.pinQueue 0) (dataLine s.pinQueue 1) := by
  have hnotLow : (clkLine s.pinQueue 0 == some false) = false := beq_eq_false_iff_ne.mpr hp
  simp [State.dataHolds, State.risesNow, State.roseBefore, State.roseEarlier, State.risesNext, bne, hb, hnotLow]

/-- A line that changed from low in the cycle before and is high now rose in that cycle: data is held to the cycles around
it. -/
theorem State.dataHolds_of_rise_before {s : State} (hb2 : clkLine s.pastPins 1 = some false)
    (hb : clkLine s.pastPins 0 = none) (hp : clkLine s.pinQueue 0 = some true) :
    s.dataHolds = levelHolds (dataLine s.pastPins 1) (dataLine s.pastPins 0) (dataLine s.pinQueue 0) := by
  simp [State.dataHolds, State.risesNow, State.roseBefore, State.roseEarlier, State.risesNext, hb2, hb, hp]

/-- The level captured where the one cycle by which a rise is dated has the data pins `before`, `now` and `next` around it,
and the present cycle, whose pin is `p`, is that cycle or the one after it. -/
theorem State.capturedData_around {s : State} {before now next p : Pin}
    (hd : s.dataHolds = levelHolds before.settled now.settled next.settled)
    (hp : dataLine s.pinQueue 0 = p.settled) (hpn : p = now ∨ p = next) :
    (before = now → now = next →
      (p = .high → s.capturedData = true) ∧ (p = .low → s.capturedData = false)) ∧
    (s.regs.cs1 = false → s.capturedClk = true → before ≠ now ∨ now ≠ next →
      s.capturedData = Config.freeDataLevel s.draws) := by
  refine ⟨?_, fun hcs hc hmoves => State.capturedData_of_moves hcs hc ?_⟩
  · rintro rfl rfl
    obtain rfl : p = before := hpn.elim id id
    have hholds : p ≠ .changing → s.dataHolds = true := fun hne => by
      rw [hd, levelHolds_settled_iff]
      exact ⟨rfl, rfl, hne⟩
    constructor <;> rintro rfl <;> exact State.capturedData_of_dataLine hp (hholds (by decide))
  · rw [hd, Bool.eq_false_iff, ne_eq, levelHolds_settled_iff]
    exact fun ⟨hbn, hnn, _⟩ => hmoves.elim (· hbn) (· hnn)

/-- Settles O11: each of the two clock patterns dates the rise by one cycle. -/
theorem dataIsSampledWhereItHoldsAroundTheRise : Obligations.DataIsSampledWhereItHoldsAroundTheRise := by
  intro s rst start
  refine ⟨fun b p x old rest hpast hq hb hp => ?_, fun b2 b p old rest hpast hq hb2 hb hp => ?_⟩
  · have hd := State.dataHolds_of_rise_now (s := s) (by simp [hpast, hb])
      (by rw [hq, clkLine_cons_zero]; exact Pin.settled_injective.ne hp)
    simp only [hpast, hq, dataLine_cons_zero, dataLine_cons_succ] at hd
    exact State.capturedData_around hd (by rw [hq, dataLine_cons_zero]) (.inl rfl)
  · have hd := State.dataHolds_of_rise_before (s := s) (by simp [hpast, hb2]) (by simp [hpast, hb]) (by simp [hq, hp])
    simp only [hpast, hq, dataLine_cons_zero, dataLine_cons_succ] at hd
    exact State.capturedData_around hd (by rw [hq, dataLine_cons_zero]) (.inr rfl)

/-- Data at one level in all six cycles holds around every cycle that a rise can be dated by. -/
theorem State.dataHolds_of_held {s : State} {v : Bool} (hpast : ∀ k < 3, dataLine s.pastPins k = some v)
    (hnext : ∀ k < 3, dataLine s.pinQueue k = some v) : s.dataHolds = true := by
  simp [State.dataHolds, levelHolds, hpast, hnext]

/-- Settles O12: data holds around whichever cycle the rise is dated by, so no draw is made. -/
theorem heldDataIsCapturedWhateverTheClock : Obligations.HeldDataIsCapturedWhateverTheClock := by
  intro s b b2 b3 p x y old rest v rst start hpast hq hv
  simp only [List.forall_mem_cons] at hv
  obtain ⟨hb3, hb2, hb, hp, hx, hy, -⟩ := hv
  have hnext : ∀ k < 3, dataLine s.pinQueue k = some v := by
    rw [hq]
    intro k hk
    interval_cases k <;> simp [hp, hx, hy]
  refine State.capturedData_of_dataLine (hnext 0 (by decide)) (State.dataHolds_of_held ?_ hnext)
  rw [hpast]
  intro k hk
  interval_cases k <;> simp [hb, hb2, hb3]

end Sys2Proof.Machine
end
